-- ==== Sys2Proof/Word.lean ====
section
/-! DEFINITION. The machine's word, byte and byte-enable types (00_scope.md, Conventions: a word is 32 bits; R1). -/

namespace Sys2Proof

/-- One byte of shared memory. -/
abbrev Byte := BitVec 8

/-- A word: 32 bits, stored little-endian (00_scope.md, Conventions). -/
abbrev Word := BitVec 32

/-- The byte enables of one word: bit k enables the byte at address + k (R1). -/
abbrev Mask := BitVec 4

/-- The mask with all four bytes enabled. -/
def Mask.all : Mask := 0xF#4

end Sys2Proof
end

