-- ==== Sys2Proof/Syntax.lean ====
section
/-! DEFINITION. The commands of the CH12: one constructor of `Instr` for each row of spec/opcode_table.json, with the
operand types they carry. The part is a block: what it takes are events (a frame's arrival, a tick, a timer's expiry,
the end of a memory transaction) and writes of control-region words. -/

namespace Sys2Proof

/-- Slots, their links, windows and records are numbered 0 to 11 (00_scope.md, Conventions). -/
abbrev SlotId := Fin 12
/-- Queue descriptors are numbered 0 to 63 (03_card_queues.md). -/
abbrev QueueId := Fin 64
/-- Staging groups are numbered 0 to 15 (05_staging_groups_and_frame_aligned_commit.md). -/
abbrev GroupId := Fin 16
/-- Alarm points are numbered 0 to 57 (R158). -/
abbrev PointId := Fin 58
/-- Relays are numbered 0 to 3 (R168). -/
abbrev RelayId := Fin 4
/-- Contact inputs are numbered 0 to 7 (R173). -/
abbrev ContactId := Fin 8
/-- Analog channels are numbered 0 to 7 (R175). -/
abbrev ChannelId := Fin 8
/-- References: 0 is A, 1 is B (R98). -/
abbrev RefId := Fin 2
/-- Window records: slot n owns 8n to 8n+7 (R19). -/
abbrev WindowId := Fin 96
/-- The 4,096 words of the 16 KiB control region (R189). -/
abbrev RegionIdx := Fin 4096

/-- The memory sizes the size strap names (R22). -/
inductive MemSize where
  | mib32
  | mib64
  | mib128
  | mib256
  deriving DecidableEq, Repr

/-- What a cold reset samples from outside the part: the memory-size strap and the placement strap (R22, R189), and the
levels of the eight contacts as they stand at the reset (R173). -/
structure Straps where
  size : MemSize
  regionTop : Bool
  contacts : Vector Bool 8
  deriving DecidableEq, Repr

/-- One sample of one contact, high as true (R173). -/
structure ContactSample where
  contact : ContactId
  level : Bool
  deriving DecidableEq, Repr

/-- One sample of a slot's four input lines (R127). -/
structure Lines where
  present : Bool
  latch : Bool
  pgood : Bool
  fault : Bool
  deriving DecidableEq, Repr

/-- Where a one-word WRITE comes from: the slot that sends it and the slot address it names (R1, R21). -/
structure Origin where
  slot : SlotId
  addr : Word
  deriving DecidableEq, Repr

/-- At a frame tick the COMMIT_DONE notices and the FRAME notices may be handed in either order (R119). The command that
takes the tick carries the order. -/
inductive TickOrder where
  | stagingFirst
  | framesFirst
  deriving DecidableEq, Repr

/-- A written field of a group's configuration (R73). -/
inductive GroupField where
  | valid (v : Bool)
  | base (v : Word)
  | size (v : BitVec 9)
  deriving DecidableEq, Repr

/-- A written field of a queue descriptor (R39). -/
inductive QueueField where
  | base (v : Word)
  | cellSize (v : BitVec 4)
  | cellCount (v : BitVec 4)
  | producer (v : BitVec 4)
  | consumer (v : BitVec 4)
  | high (v : BitVec 13)
  | low (v : BitVec 13)
  deriving DecidableEq, Repr

/-- A written field of the budget word (R149). -/
inductive BudgetField where
  | mains (v : BitVec 16)
  | battery (v : BitVec 16)
  deriving DecidableEq, Repr

/-- A written field of the log configuration (R181). -/
inductive LogField where
  | base (v : Word)
  | capacity (v : Word)
  deriving DecidableEq, Repr

/-- The commands. A row that is a write of a control-region word, or of an arm word, is a one-word WRITE sent from its
`Origin`: it arrives at an idle link port and the window unit takes it. -/
inductive Instr where
  /-- COLD_RESET (R193). -/
  | coldReset (straps : Straps)
  /-- COLD_START_UP_WRITE_COMPLETE (R193). -/
  | coldStartUpWriteComplete
  /-- READ_FRAME_ARRIVAL (R8). -/
  | readFrameArrival (n : SlotId) (tag : Byte) (addr : Word) (count : Nat)
  /-- WRITE_FRAME_ARRIVAL (R8): the count is the number of data words. -/
  | writeFrameArrival (n : SlotId) (addr : Word) (first last : Mask) (data : List Word)
  /-- READY_TO_FENCE_ARRIVAL (R8). -/
  | readyToFenceArrival (n : SlotId)
  /-- IDLE_ARRIVAL (R4). -/
  | idleArrival (n : SlotId)
  /-- ECHO_REPLY_ARRIVAL (R15): the echo sequence and the card's turnaround in ns. -/
  | echoReplyArrival (n : SlotId) (seq : BitVec 16) (turnaround : Word)
  /-- FRAME_CHECK_FAILED (R2). -/
  | frameCheckFailed (n : SlotId)
  /-- ECHO_CADENCE_DUE (R15). -/
  | echoCadenceDue (n : SlotId)
  /-- ECHO_REPLY_TIMER_EXPIRY (R15). -/
  | echoReplyTimerExpiry (n : SlotId)
  /-- ERROR_WINDOW_END (R13). -/
  | errorWindowEnd (n : SlotId)
  /-- SEND_GO (R10). -/
  | sendGo (n : SlotId)
  /-- SEND_HOLD (R10). -/
  | sendHold (n : SlotId)
  /-- SEND_ECHO (R15). -/
  | sendEcho (n : SlotId)
  /-- SEND_DATA (R11). -/
  | sendData (n : SlotId)
  /-- SEND_NOTICE (R69). -/
  | sendNotice (n : SlotId)
  /-- SEND_IDLE (R12). -/
  | sendIdle (n : SlotId)
  /-- RESYNC_ADD (R67). -/
  | resyncAdd (n : SlotId)
  /-- WINDOW_TAKE_READ (R21). -/
  | windowTakeRead (n : SlotId)
  /-- WINDOW_TAKE_WRITE (R27). -/
  | windowTakeWrite (n : SlotId)
  /-- READY_TO_FENCE_TAKEN (R137). -/
  | readyToFenceTaken (n : SlotId)
  /-- TIME_WORD0_READ (R123). -/
  | timeWord0Read (n : SlotId)
  /-- STATUS_MARK_READ (R188). -/
  | statusMarkRead (n : SlotId)
  /-- HELD_READ_RELEASE (R32). -/
  | heldReadRelease (n : SlotId)
  /-- MEMORY_GRANT (R34). -/
  | memoryGrant
  /-- SLOT_READ_COMPLETE (R35). -/
  | slotReadComplete
  /-- SLOT_WRITE_COMPLETE (R35). -/
  | slotWriteComplete
  /-- OPEN (R41). -/
  | openQueue (o : Origin) (q : QueueId)
  /-- CLOSE (R43). -/
  | closeQueue (o : Origin) (q : QueueId)
  /-- QUEUE_ZEROING_OFFER (R45). -/
  | queueZeroingOffer
  /-- ZEROING_COMPLETE (R46). -/
  | zeroingComplete
  /-- ARM (R80). -/
  | armGroup (o : Origin) (g : GroupId) (f : BitVec 10)
  /-- DISARM (R81). -/
  | disarmGroup (o : Origin) (g : GroupId)
  /-- DISCARD (R81). -/
  | discardGroup (o : Origin) (g : GroupId)
  /-- ARM_WORD_IGNORED (R79). -/
  | armWordIgnored (o : Origin) (g : GroupId) (data : Word) (enables : Mask)
  /-- CONTINUOUS_FRAME_TICK (R117). -/
  | continuousFrameTick (order : TickOrder)
  /-- COMMIT_ROUND_START (R85). -/
  | commitRoundStart
  /-- COMMIT_TRANSACTION_COMPLETE (R85). -/
  | commitTransactionComplete
  /-- PULSE_EVENT (R101). -/
  | pulseEvent (r : RefId) (order : TickOrder)
  /-- MISS_TIMER_EXPIRY (R102). -/
  | missTimerExpiry (r : RefId)
  /-- HOLDOVER_TIMER_EXPIRY (R114). -/
  | holdoverTimerExpiry
  /-- REFERENCE_ENABLE_WRITE (R98). -/
  | referenceEnableWrite (o : Origin) (r : RefId) (enable : Bool)
  /-- REFERENCE_PRIORITY_WRITE (R99). -/
  | referencePriorityWrite (o : Origin) (r : RefId) (priority : BitVec 2)
  /-- SECONDS_LOAD (R108). -/
  | secondsLoad (o : Origin)
  /-- SLOT_LINE_SAMPLE (R127). -/
  | slotLineSample (n : SlotId) (lines : Lines)
  /-- PRESENT_DEBOUNCED (R127). -/
  | presentDebounced (n : SlotId) (lines : Lines)
  /-- LATCH_DEBOUNCED (R127). -/
  | latchDebounced (n : SlotId) (lines : Lines)
  /-- PGOOD_STEADY (R128). -/
  | pgoodSteady (n : SlotId) (lines : Lines)
  /-- PGOOD_LOST (R128). -/
  | pgoodLost (n : SlotId) (lines : Lines)
  /-- RAMP_TIMER_EXPIRY (R134). -/
  | rampTimerExpiry (n : SlotId)
  /-- LINK_TIMER_EXPIRY (R135). -/
  | linkTimerExpiry (n : SlotId)
  /-- DRAIN_TIMER_EXPIRY (R137). -/
  | drainTimerExpiry (n : SlotId)
  /-- POWER_DOWN_TIMER_EXPIRY (R139). -/
  | powerDownTimerExpiry (n : SlotId)
  /-- REALIGN_LIMIT_EXPIRY (R143). -/
  | realignLimitExpiry (n : SlotId)
  /-- BACKOFF_TIMER_EXPIRY (R144). -/
  | backoffTimerExpiry (n : SlotId)
  /-- POWER_ON (R130). -/
  | powerOn (o : Origin) (n : SlotId)
  /-- REMOVE (R130). -/
  | removeSlot (o : Origin) (n : SlotId)
  /-- CLEAR_LOCKOUT (R130). -/
  | clearLockout (o : Origin) (n : SlotId)
  /-- SLOT_POLICY_WRITE (R130): the policy's code. -/
  | slotPolicyWrite (o : Origin) (n : SlotId) (policy : BitVec 2)
  /-- SLOT_DRAW_WRITE (R150). -/
  | slotDrawWrite (o : Origin) (n : SlotId) (draw : BitVec 10)
  /-- SHED_PRIORITY_WRITE (R151). -/
  | shedPriorityWrite (o : Origin) (n : SlotId) (priority : BitVec 3)
  /-- CONTROL_RIGHT_WRITE (R190). -/
  | controlRightWrite (o : Origin) (n : SlotId) (right : Bool)
  /-- ADMIT (R152). -/
  | admitHead
  /-- READMIT (R153). -/
  | readmitHead
  /-- BUDGET_WRITE (R149). -/
  | budgetWrite (o : Origin) (field : BudgetField)
  /-- RAISE_DEBOUNCE_EXPIRY (R161). -/
  | raiseDebounceExpiry (p : PointId)
  /-- CLEAR_DEBOUNCE_EXPIRY (R162). -/
  | clearDebounceExpiry (p : PointId)
  /-- ACK (R164): the point field of the command word. -/
  | ackPoint (o : Origin) (point : BitVec 8)
  /-- ACK_ALL (R164). -/
  | ackAll (o : Origin)
  /-- POINT_ENABLE_WRITE (R165). -/
  | pointEnableWrite (o : Origin) (p : PointId) (enable : Bool)
  /-- POINT_LATCHED_WRITE (R165). -/
  | pointLatchedWrite (o : Origin) (p : PointId) (latched : Bool)
  /-- POINT_SEVERITY_WRITE (R165): the severity's code. -/
  | pointSeverityWrite (o : Origin) (p : PointId) (severity : BitVec 2)
  /-- POINT_RELAY_MARKS_WRITE (R165). -/
  | pointRelayMarksWrite (o : Origin) (p : PointId) (marks : BitVec 4)
  /-- POINT_SHED_TRIGGER_WRITE (R165). -/
  | pointShedTriggerWrite (o : Origin) (p : PointId) (trigger : Bool)
  /-- RELAY_ON (R171). -/
  | relayOn (o : Origin) (mask : BitVec 4)
  /-- RELAY_OFF (R171). -/
  | relayOff (o : Origin) (mask : BitVec 4)
  /-- RELAY_FOLLOW (R171). -/
  | relayFollow (o : Origin) (mask : BitVec 4)
  /-- RELAY_CONFIG_WRITE (R172): the codes of the three fields. -/
  | relayConfigWrite (o : Origin) (k : RelayId) (threshold mode : BitVec 2) (polarity : Bool)
  /-- CONTACT_SAMPLE (R173): one contact's sample of one tick (log entry 53). -/
  | contactSample (sample : ContactSample)
  /-- SENSE_MODE_WRITE (R174): the mode's code. -/
  | senseModeWrite (o : Origin) (i : ContactId) (mode : BitVec 3)
  /-- SCAN_INTERVAL_EXPIRY (R178). -/
  | scanIntervalExpiry
  /-- SCAN_NOW (R178). -/
  | scanNow (o : Origin)
  /-- CONVERSION_COMPLETE (R176): the voltage held since the conversion's start and Vref, in one common unit. -/
  | conversionComplete (vin : Int) (vref : Nat)
  /-- CHANNEL_CONFIG_WRITE (R179). -/
  | channelConfigWrite (o : Origin) (j : ChannelId) (low high : BitVec 10) (hysteresis : BitVec 8) (enable : Bool)
  /-- LOG_WRITE_COMPLETE (R185). -/
  | logWriteComplete
  /-- LOG_CONFIG_WRITE (R181). -/
  | logConfigWrite (o : Origin) (field : LogField)
  /-- LOG_READ_INDEX_WRITE (R182). -/
  | logReadIndexWrite (o : Origin) (index : BitVec 16)
  /-- WINDOW_RECORD_WRITE (R20): word 0, 1 or 2 of the record. -/
  | windowRecordWrite (o : Origin) (w : WindowId) (k : Fin 3) (value : Word)
  /-- GROUP_CONFIG_WRITE (R73). -/
  | groupConfigWrite (o : Origin) (g : GroupId) (field : GroupField)
  /-- QUEUE_DESCRIPTOR_WRITE (R39). -/
  | queueDescriptorWrite (o : Origin) (q : QueueId) (field : QueueField)
  /-- CONTROL_REGION_WRITE (R191): any word of the region. -/
  | controlRegionWrite (o : Origin) (idx : RegionIdx) (data : Word) (enables : Mask)
  /-- WARM_RESET (R194). -/
  | warmReset (o : Origin)
  /-- WARM_RESET_CARRIED_OUT (R194). -/
  | warmResetCarriedOut
  /-- LOCAL_OSCILLATOR_PERIOD (R95). -/
  | localOscillatorPeriod (order : TickOrder)
  /-- TRANSMIT_FRAME_END (R12). -/
  | transmitFrameEnd (n : SlotId)
  /-- REFERENCE_LINE_EDGE (R100): a rising or a falling edge. -/
  | referenceLineEdge (r : RefId) (rising : Bool)
  deriving DecidableEq, Repr

end Sys2Proof
end

