-- ==== Sys2Proof/Decode.lean ====
section
/-! DEFINITION. The decoder the host asks for. spec/opcode_table.json gives no row any bits (98_reader.md: no row has
fixed bits or fields), so no word spells a command. -/

namespace Sys2Proof

/-- The command a table word spells: none, since the table gives its rows no bits. -/
def decodeTableWord (_nbits _w : Nat) : Option Instr := none

end Sys2Proof
end

