-- ==== Sys2Proof/Config.lean ====
section
/-! DEFINITION. What an implementation or the model fixes: the strap levels of the reset state, what memory that nothing
has written reads as, the bound on the inputs and admissions of one event, and the one value the manual leaves unstated. -/

namespace Sys2Proof.Config

/-- What a byte of shared memory that nothing has written reads as. DESIGN CHOICE, unsafe: the manual gives the DRAM no
contents at power-on (log entry 1). -/
def fillByte : Byte := 0#8

/-- The straps and contact levels that `State.reset` takes as sampled: 256 MiB, the control region at physical 0, every
contact low. DESIGN CHOICE, unsafe: they are levels outside the part; the COLD_RESET command takes any (log entry 2). -/
def resetStraps : Straps := { size := .mib256, regionTop := false, contacts := Vector.replicate 8 false }

/-- How many inputs of the alarm unit and admissions one event may need before the model gives up following them. DESIGN CHOICE: the
manual has no such bound, and no event comes near it (log entry 3). -/
def messageBound : Nat := 1000000

/-- The slot address a last-fault record shows for a word of a burst that lies past slot address 2^32 − 1, by that word's
unwrapped address. A free value: R25 records "the slot address of the word concerned", R21 says such a word has none that
fits 32 bits (log entry 4). -/
opaque addressPastTop : Nat → Word

end Sys2Proof.Config
end

