-- ==== Sys2Proof/Machine/State.lean ====
section
/-! DEFINITION. The machine's state, block by block as 00_scope.md's block overview lists them, the reasons a step could
stop, and the state after a cold reset. Plain data throughout. -/

namespace Sys2Proof.Machine

open Sys2Proof

/-! ## Names the chapters give -/

/-- The link states (section 1.2). `opened` is the manual's OPEN. -/
inductive LinkState where
  | off
  | aligning
  | measuring
  | opened
  | fenced
  deriving DecidableEq, Repr

/-- The two flow marks (R10). -/
inductive FlowMark where
  | hold
  | go
  deriving DecidableEq, Repr

/-- The kinds of access fault (R25). -/
inductive AccessKind where
  | unmapped
  | rights
  | control
  | queueEndpoint
  | queueNotOpen
  | underrun
  | partServedWrite
  deriving DecidableEq, Repr

/-- The status of a DATA frame (section 1.1, R24). -/
inductive DataStatus where
  | ok
  | unmapped
  | rights
  deriving DecidableEq, Repr

/-- The swap states (R132). -/
inductive SwapState where
  | empty
  | seated
  | powering
  | linking
  | active
  | quiescing
  | fenced
  | off
  | faulted
  | lockedOut
  deriving DecidableEq, Repr

/-- A slot's reason, or the cause a SWAP notice carries (R132, R146, section 13.6 common codes). -/
inductive Reason where
  | noReason
  | latch
  | command
  | shed
  | policy
  | ramp
  | link
  | overcurrent
  | powerLost
  | linkLost
  | surprise
  deriving DecidableEq, Repr

/-- The slot policies (R130). -/
inductive Policy where
  | auto
  | manual
  | disabled
  deriving DecidableEq, Repr

/-- The severities, the highest first (R63, R159). -/
inductive Severity where
  | critical
  | major
  | minor
  | warning
  deriving DecidableEq, Repr

/-- The loop states (section 6.5). -/
inductive LoopState where
  | free
  | acquire
  | locked
  | holdover
  deriving DecidableEq, Repr

/-- The point states (R160). -/
inductive PointState where
  | clear
  | rising
  | raised
  | falling
  deriving DecidableEq, Repr

/-- The reported point changes (R166). `repeated` is the manual's REPEAT. -/
inductive Change where
  | raised
  | clear
  | repeated
  | ack
  deriving DecidableEq, Repr

/-- The kinds of a log record (R186's note). -/
inductive LogKind where
  | change (c : Change)
  | lost
  deriving DecidableEq, Repr

/-- The queue states (R40). `opened` is the manual's OPEN. -/
inductive QueueState where
  | closed
  | waiting
  | opening
  | opened
  | detached
  deriving DecidableEq, Repr

/-- The result of the last OPEN command taken in CLOSED (R40). -/
inductive OpenResult where
  | noResult
  | badDescriptor
  | overlap
  deriving DecidableEq, Repr

/-- The group states (section 5.1). `opened` is the manual's OPEN. -/
inductive GroupState where
  | opened
  | armed
  | committing
  deriving DecidableEq, Repr

/-- The results a COMMIT_DONE notice carries (R89). -/
inductive CommitResult where
  | ok
  | torn
  | discontinuity
  deriving DecidableEq, Repr

/-- The window kinds (section 2.1). -/
inductive WindowKind where
  | plain
  | staged
  | time
  | status
  deriving DecidableEq, Repr

/-- The window rights (section 2.1). -/
inductive Rights where
  | read
  | write
  | readWrite
  deriving DecidableEq, Repr

/-- The relay modes (R169). -/
inductive RelayMode where
  | anyActive
  | anyUnacked
  | allActive
  deriving DecidableEq, Repr

/-- The relay force states (R168). -/
inductive Force where
  | follow
  | on
  | off
  deriving DecidableEq, Repr

/-- The contact sense modes (R173). -/
inductive SenseMode where
  | levelHigh
  | levelLow
  | rising
  | falling
  | anyEdge
  deriving DecidableEq, Repr

/-- The five queue notice kinds (R57). -/
inductive QueueNotice where
  | ready
  | posted
  | overrun
  | space
  | detached
  deriving DecidableEq, Repr

/-- The identity of a notice: its kind and object together (section 4.1). -/
inductive NoticeId where
  | queue (k : QueueNotice) (q : QueueId)
  | commitDone (g : GroupId)
  | frame
  | alarm (p : PointId)
  | swap (n : SlotId)
  | resync
  deriving DecidableEq, Repr

/-- The details of a notice, by kind (section 4.1's table, R57, R89, R120, R146, R166). -/
inductive Details where
  | indices (p c : Nat)
  | commit (result : CommitResult) (count : Nat)
  | frame (number seconds ns : Nat) (delay : Option Nat) (loop : LoopState) (discontinuous : Bool)
  | alarm (change : Change) (state : PointState) (severity : Severity) (acked : Bool)
  | swap (state : SwapState) (cause : Reason)
  | blank
  deriving DecidableEq, Repr

/-- A millisecond timer (R94): none when stopped, otherwise the divider ticks it has still to count. At `some 0` it has
reached its last count and its expiry is due. -/
abbrev Timer := Option Nat

/-- A whole-nanosecond instant: seconds and nanoseconds, residue dropped (R96). -/
structure Stamp where
  sec : Nat
  ns : Nat
  deriving DecidableEq, Repr

/-! ## Link ports (chapter 1) -/

/-- A frame held in the input buffer (R8). -/
inductive Request where
  | read (tag : Byte) (addr : Word) (count : Nat)
  | write (addr : Word) (first last : Mask) (data : List Word)
  | readyToFence
  deriving DecidableEq, Repr

/-- An outstanding read (R11): its tag, its status, and its words, each present once it has its value. `id` is the
model's own: it names the entry to the memory transaction that will answer it. -/
structure ReadEntry where
  id : Nat
  tag : Byte
  status : DataStatus
  words : List (Option Word)
  deriving DecidableEq, Repr

/-- An entry of a notice list (R58). -/
structure Entry where
  id : NoticeId
  details : Details
  count : Nat
  deriving DecidableEq, Repr

/-- A frame on the transmit side, its contents fixed when it began (section 1.4). -/
inductive OutFrame where
  | idle
  | go
  | hold
  | echo (seq : BitVec 16)
  | data (tag : Byte) (status : DataStatus) (words : List Word)
  | notice (e : Entry)
  deriving DecidableEq, Repr

/-- The outstanding echo (R15): its sequence and its send time t1. -/
structure Echo where
  seq : BitVec 16
  sent : Stamp
  deriving DecidableEq, Repr

/-- One link port (chapter 1). -/
structure LinkPort where
  /-- The link state (section 1.2). -/
  state : LinkState
  /-- The input buffer, head first, up to 16 frames (R8). -/
  buffer : List Request
  /-- The outstanding-read list, head first, up to 8 entries (R11). -/
  reads : List ReadEntry
  /-- The model's own: the id of the next outstanding read. -/
  nextId : Nat
  /-- The hold flag and the pending flow mark (R10). -/
  holdFlag : Bool
  mark : Option FlowMark
  /-- The GO owed on entry to OPEN (R6). -/
  goOwed : Bool
  /-- The runs of good IDLE frames (R4), of failing frames (R5) and of echo misses (R15). -/
  goodRun : Nat
  failRun : Nat
  missRun : Nat
  /-- The error window timer and count, the run of quiet windows, and the two sources of the degraded condition (R13, R14). -/
  windowTimer : Timer
  windowCount : Nat
  quietRun : Nat
  windowSource : Bool
  echoSource : Bool
  /-- The echo exchange (R15): the sequence counter, the outstanding echo, its reply timer, the cadence timer, and whether
  an ECHO is due. -/
  echoSeq : BitVec 16
  echo : Option Echo
  replyTimer : Timer
  cadenceTimer : Timer
  echoDue : Bool
  /-- The measured delay in ns, or absent (R17). -/
  delay : Option Nat
  /-- The frame on the transmit side; none when it is free (R12). -/
  sending : Option OutFrame
  deriving DecidableEq, Repr

/-- A link port after a cold reset: OFF with R3's values, the echo sequence counter 0 (R3, R17). That the transmit side is free,
and a frame on it is given up, is the model's choice: the manual gives the transmit side no reset value (R12, log entry 56). -/
def LinkPort.cold : LinkPort :=
  { state := .off, buffer := [], reads := [], nextId := 0, holdFlag := false, mark := none, goOwed := false,
    goodRun := 0, failRun := 0, missRun := 0, windowTimer := none, windowCount := 0, quietRun := 0,
    windowSource := false, echoSource := false, echoSeq := 0#16, echo := none, replyTimer := none,
    cadenceTimer := none, echoDue := false, delay := none, sending := none }

/-! ## Window unit and memory port (chapter 2) -/

/-- A slot's access-fault count and last fault (R25). -/
structure AccessRecord where
  count : Nat
  last : Option (Word × AccessKind)
  deriving DecidableEq, Repr

/-- A word of a write transaction: its physical address, data and byte mask (R33). `region` marks a control-region word,
whose value is the copy's at the grant (R191). -/
structure WriteWord where
  addr : Nat
  data : Word
  mask : Mask
  region : Bool
  deriving DecidableEq, Repr

/-- A word of a WRITE for the staging unit: a staged write or an arm-word operation, with the group and the address it was
given at the taking (R28, R31). -/
inductive StagingWord where
  | staged (g : GroupId) (addr : Nat) (data : Word) (enables : Mask)
  | arm (g : GroupId) (data : Word) (enables : Mask)
  deriving DecidableEq, Repr

/-- A slot's transaction waiting at the memory port (R33). A READ names its outstanding-read entry, the addresses of its
memory-bound words, and whether it is held by a commit round (R32). A WRITE carries its words for memory, and `kept`, the words
of the same request for the staging unit, which act as the request is settled, at the grant (R30, R37, log
entry 47). -/
inductive SlotTxn where
  | read (id : Nat) (addrs : List Nat) (held : Bool)
  | write (words : List WriteWord) (kept : List StagingWord)
  deriving DecidableEq, Repr

/-- The transaction in flight, from its grant to its completion (section 2.6). -/
inductive Flight where
  | commit (words : List WriteWord)
  | zeroing (q : QueueId) (base : Nat)
  | log (words : List WriteWord)
  | slotRead (n : SlotId) (id : Nat) (addrs : List Nat)
  | slotWrite (n : SlotId) (words : List WriteWord)
  deriving DecidableEq, Repr

/-- The memory port: the transaction in flight, the waiting transactions of the slots, the commit engine and the queue
initializer, and the last slot granted (R33, R34). The log writer's transaction waits while its record queue is not
empty and none of its records is in flight (R185). -/
structure MemPort where
  flight : Option Flight
  waiting : Vector (Option SlotTxn) 12
  commit : Option (List WriteWord)
  zeroing : Option QueueId
  last : SlotId
  deriving DecidableEq, Repr

/-- The memory port after a cold reset: idle, the last slot granted 11 (R34). -/
def MemPort.cold : MemPort :=
  { flight := none, waiting := Vector.replicate 12 none, commit := none, zeroing := none, last := 11 }

/-! ## Queue tracker (chapter 3), notice unit (chapter 4), staging unit (chapter 5) -/

/-- The tracked state of one queue (R40). `offered` says whether its zeroing has been offered since it entered OPENING
(R45). -/
structure Queue where
  state : QueueState
  p : Nat
  c : Nat
  overrun : Bool
  overruns : Nat
  spaceWanted : Bool
  result : OpenResult
  offered : Bool
  deriving DecidableEq, Repr

/-- A queue after a cold reset (R40). -/
def Queue.cold : Queue :=
  { state := .closed, p := 0, c := 0, overrun := false, overruns := 0, spaceWanted := false, result := .noResult,
    offered := false }

/-- A notice list and its overflow mark (R59). -/
structure NoticeList where
  entries : List Entry
  overflow : Bool
  deriving DecidableEq, Repr

/-- A list after a cold reset, or emptied (R59, R70). -/
def NoticeList.blank : NoticeList := { entries := [], overflow := false }

/-- The state part of a group record (section 5.1), with the size of its round in flight (R84). -/
structure Group where
  state : GroupState
  armedFrame : Nat
  pendingArm : Option Nat
  torn : Bool
  entryCount : Nat
  roundSize : Nat
  deriving DecidableEq, Repr

/-- A group after a cold reset (R72). That the kept size of a round is 0 before there has been a round is the model's choice
(R84, log entry 57). -/
def Group.cold : Group :=
  { state := .opened, armedFrame := 0, pendingArm := none, torn := false, entryCount := 0, roundSize := 0 }

/-- A staging entry (section 5.2): bit n of `origin` is slot n's membership of the origin set; `next` marks the next
round. -/
structure Staged where
  group : GroupId
  addr : Nat
  data : Word
  mask : Mask
  origin : BitVec 12
  next : Bool
  deriving DecidableEq, Repr

/-! ## Timebase and frame ticks (chapters 6 and 7) -/

/-- The timebase (chapter 6): the divider's count, cabinet time, the frequency words F, P and A, the loop, the pending
seconds load and the active reference. -/
structure Timebase where
  divider : Nat
  sec : Nat
  ns : Nat
  residue : Nat
  freq : Int
  prop : Int
  applied : Int
  loop : LoopState
  good : Nat
  holdCount : Nat
  holdTimer : Timer
  lastError : Int
  load : Option Nat
  active : Option RefId
  deriving DecidableEq, Repr

/-- The timebase after a cold reset (R93, R95, R104, R106, R108, R110). -/
def Timebase.cold : Timebase :=
  { divider := 0, sec := 0, ns := 0, residue := 0, freq := 0, prop := 0, applied := 0, loop := .free, good := 0,
    holdCount := 0, holdTimer := none, lastError := 0, load := none, active := none }

/-- A rising edge whose pulse event is still to come (R100): its capture, and how many oscillator periods the line has
been high since. -/
structure Edge where
  capture : Stamp
  periods : Nat
  deriving DecidableEq, Repr

/-- The state of one reference (R98), its miss timer as the advance of cabinet time since its start in units of residue
(R102), its line's level and a pending edge (R100). -/
structure Reference where
  qualified : Bool
  capture : Option Stamp
  misses : Nat
  rejects : Nat
  missTimer : Option Nat
  line : Bool
  edge : Option Edge
  deriving DecidableEq, Repr

/-- A reference after a cold reset (R98): its line taken as low by the model's choice (log entry 30), and no edge pending (log
entry 58). -/
def Reference.cold : Reference :=
  { qualified := false, capture := none, misses := 0, rejects := 0, missTimer := none, line := false, edge := none }

/-- A slot's TIME latch (R123). -/
structure Latch where
  sec : Nat
  frame : Nat
  loop : LoopState
  deriving DecidableEq, Repr

/-- A latch after a cold or warm reset (R125). -/
def Latch.cold : Latch := { sec := 0, frame := 0, loop := .free }

/-! ## Swap sequencer and admission unit (chapters 8 and 9) -/

/-- One slot of the swap sequencer (R127 to R132): the latest samples, the debounced levels and counts, the PGOOD counts,
whether this tick's sample is still to be taken, the swap state, its reason, the retry count, the power request, the two
timers and the three outputs (R129). -/
structure Swap where
  sample : Lines
  present : Bool
  latchClosed : Bool
  presentCount : Nat
  latchCount : Nat
  goodCount : Nat
  badCount : Nat
  sampleDue : Bool
  state : SwapState
  reason : Reason
  retry : Nat
  powerRequest : Bool
  stateTimer : Timer
  realign : Timer
  pwrEn : Bool
  linkEnable : Bool
  readyLit : Bool
  deriving DecidableEq, Repr

/-- A slot after a cold reset (R127 to R132). -/
def Swap.cold : Swap :=
  { sample := { present := false, latch := false, pgood := false, fault := false }, present := false,
    latchClosed := false, presentCount := 0, latchCount := 0, goodCount := 0, badCount := 0, sampleDue := false,
    state := .empty, reason := .noReason, retry := 0, powerRequest := false, stateTimer := none, realign := none,
    pwrEn := false, linkEnable := false, readyLit := false }

/-- A slot's committed draw and shed mark (chapter 9). -/
structure Admission where
  draw : Nat
  shed : Bool
  deriving DecidableEq, Repr

/-- No committed draw and no mark (R150, R156). -/
def Admission.cold : Admission := { draw := 0, shed := false }

/-! ## Alarm unit and environment monitor (chapters 10 to 12) -/

/-- An alarm point (R158, R160): `cond` is the record of its condition. -/
structure Point where
  state : PointState
  acked : Bool
  count : Nat
  timer : Timer
  cond : Bool
  deriving DecidableEq, Repr

/-- A CLEAR point with no condition (R160). -/
def Point.cold : Point := { state := .clear, acked := false, count := 0, timer := none, cond := false }

/-- A relay (R168, R170): its force state, its alarm state and whether its output is energised. -/
structure Relay where
  force : Force
  alarm : Bool
  energised : Bool
  deriving DecidableEq, Repr

/-- A relay after a cold reset (R168, R170). -/
def Relay.cold : Relay := { force := .follow, alarm := false, energised := false }

/-- A record as the alarm unit hands it to the log writer (R166), without its sequence number. -/
structure LogDraft where
  kind : LogKind
  point : PointId
  severity : Severity
  count : Nat
  sec : Nat
  ns : Nat
  value : Nat
  deriving DecidableEq, Repr

/-- An accepted log record (R183). -/
structure LogRecord where
  seq : Nat
  draft : LogDraft
  deriving DecidableEq, Repr

/-- The log writer (R182 to R185): the accept index, the write index, the lost count and the record queue. -/
structure LogWriter where
  accept : Nat
  write : Nat
  lost : Nat
  queue : List LogRecord
  deriving DecidableEq, Repr

/-- The log writer after a cold reset (R182, R184). -/
def LogWriter.cold : LogWriter := { accept := 0, write := 0, lost := 0, queue := [] }

/-- An analog channel's latest result and its two conditions (R175, R176). -/
structure Channel where
  result : Option Nat
  high : Bool
  low : Bool
  deriving DecidableEq, Repr

/-- A channel after a cold reset (R176, R180). -/
def Channel.cold : Channel := { result := none, high := false, low := false }

/-- The scan state (R177, R178): the running and pending marks, the channel in conversion with the oscillator periods its
conversion has run, the interval timer (none until the first divider tick) and the skipped-pass count. -/
structure Scan where
  running : Bool
  pendingPass : Bool
  converting : Option ChannelId
  periods : Nat
  timer : Timer
  skipped : Nat
  deriving DecidableEq, Repr

/-- The scan state after a cold reset (R177, R178). -/
def Scan.cold : Scan :=
  { running := false, pendingPass := false, converting := none, periods := 0, timer := none, skipped := 0 }

/-- A reader's change marks (R188): bit n of `swap` for slot n, bit p of `points` for point p. -/
structure Marks where
  swap : BitVec 12
  points : BitVec 58
  deriving DecidableEq, Repr

/-! ## The control shadow's copy (chapter 13), as fields -/

/-- A slot record (R63, R130, R150, R151, R190). -/
structure SlotCfg where
  policy : Policy
  right : Bool
  shedPriority : Nat
  draw : Nat
  frameSub : Bool
  alarmSub : Bool
  alarmThreshold : Severity
  swapSub : Bool
  deriving DecidableEq, Repr

/-- A window record (section 2.1). -/
structure WindowCfg where
  valid : Bool
  kind : WindowKind
  rights : Rights
  size : Nat
  group : GroupId
  localBase : Nat
  physBase : Nat
  deriving DecidableEq, Repr

/-- A queue descriptor (section 3.1). -/
structure QueueCfg where
  base : Nat
  cellSize : Nat
  cellCount : Nat
  producer : Nat
  consumer : Nat
  high : Nat
  low : Nat
  deriving DecidableEq, Repr

/-- A group's configuration (section 5.1): the size is in pages of 4 KiB. -/
structure GroupCfg where
  valid : Bool
  base : Nat
  pages : Nat
  deriving DecidableEq, Repr

/-- A point record (R159). -/
structure PointCfg where
  enable : Bool
  latched : Bool
  shedTrigger : Bool
  severity : Severity
  relays : BitVec 4
  raiseDebounce : Nat
  clearDebounce : Nat
  deriving DecidableEq, Repr

/-- A reference's configuration (R98): the delay is D in ns. -/
structure RefCfg where
  enable : Bool
  priority : Nat
  delay : Nat
  deriving DecidableEq, Repr

/-- An analog channel's configuration (R175). -/
structure ChannelCfg where
  low : Nat
  high : Nat
  hysteresis : Nat
  enable : Bool
  deriving DecidableEq, Repr

/-- A relay's configuration (R168): `deenergise` is polarity DEENERGISE_ON_ALARM. -/
structure RelayCfg where
  threshold : Severity
  mode : RelayMode
  deenergise : Bool
  deriving DecidableEq, Repr

/-- The control shadow's copy of the control region, field by field (section 13.6). -/
structure Cfg where
  slots : Vector SlotCfg 12
  windows : Vector WindowCfg 96
  queues : Vector QueueCfg 64
  groups : Vector GroupCfg 16
  points : Vector PointCfg 58
  secondsLow : Nat
  secondsHigh : Nat
  mains : Nat
  battery : Nat
  linkThreshold : Nat
  presentDebounce : Nat
  latchDebounce : Nat
  rampTimeout : Nat
  linkTimeout : Nat
  drainTimeout : Nat
  powerDownDelay : Nat
  retryLimit : Nat
  refs : Vector RefCfg 2
  gate : Nat
  missLimit : Nat
  lockCount : Nat
  ki : Nat
  kp : Nat
  stepThreshold : Nat
  lockWindow : Nat
  holdoverLimit : Nat
  scanInterval : Nat
  senses : Vector SenseMode 8
  channels : Vector ChannelCfg 8
  logBase : Nat
  logCode : Nat
  logRead : Nat
  relays : Vector RelayCfg 4
  deriving DecidableEq, Repr

/-- The size log2 of the memory fitted (R20, R22). -/
def MemSize.log2 : MemSize → Nat
  | .mib32 => 25
  | .mib64 => 26
  | .mib128 => 27
  | .mib256 => 28

/-- The memory fitted, in bytes (R22). -/
def MemSize.bytes (m : MemSize) : Nat := 2 ^ MemSize.log2 m

/-- A slot record after a cold reset: slot 0 is AUTO and holds the control right, the others are MANUAL (R63, R130, R150,
R190). -/
def SlotCfg.cold (first : Bool) : SlotCfg :=
  { policy := if first then .auto else .manual, right := first, shedPriority := 0, draw := 0, frameSub := false,
    alarmSub := false, alarmThreshold := .warning, swapSub := false }

/-- A window record after a cold reset other than record 0 (R20): invalid, PLAIN, rights READ and every other field 0, the
size field among them, although a written size is clamped to 12..28. -/
def WindowCfg.cold : WindowCfg :=
  { valid := false, kind := .plain, rights := .read, size := 0, group := 0, localBase := 0, physBase := 0 }

/-- Record 0 after a cold reset: slot 0's window onto the whole of memory (R20). -/
def WindowCfg.first (m : MemSize) : WindowCfg :=
  { valid := true, kind := .plain, rights := .readWrite, size := MemSize.log2 m, group := 0, localBase := 0,
    physBase := 0 }

/-- A descriptor after a cold reset (R39). -/
def QueueCfg.cold : QueueCfg :=
  { base := 0, cellSize := 4, cellCount := 1, producer := 0, consumer := 0, high := 1, low := 0 }

/-- A group's configuration after a cold reset (R72). -/
def GroupCfg.cold : GroupCfg := { valid := false, base := 0, pages := 1 }

/-- Point p's record after a cold reset (R159). -/
def PointCfg.cold (p : PointId) : PointCfg :=
  { enable := decide (p.val < 24 ∨ 48 ≤ p.val), latched := false, shedTrigger := false,
    severity := if p.val < 12 ∨ p.val = 50 then .major else .minor, relays := 0#4, raiseDebounce := 0,
    clearDebounce := 0 }

/-- A reference's configuration after a cold reset (R98). -/
def RefCfg.cold : RefCfg := { enable := false, priority := 0, delay := 0 }

/-- A channel's configuration after a cold reset (R175). -/
def ChannelCfg.cold : ChannelCfg := { low := 0, high := 1023, hysteresis := 0, enable := false }

/-- A relay's configuration after a cold reset (R168). -/
def RelayCfg.cold : RelayCfg := { threshold := .warning, mode := .anyActive, deenergise := false }

/-- The copy after a cold reset: each field's default (R193), the values of R13, R20, R39, R72, R98, R101, R105, R131,
R149, R159, R168, R173, R175, R178 and R181. -/
def Cfg.cold (m : MemSize) : Cfg :=
  { slots := (Vector.replicate 12 (SlotCfg.cold false)).set 0 (SlotCfg.cold true),
    windows := (Vector.replicate 96 WindowCfg.cold).set 0 (WindowCfg.first m),
    queues := Vector.replicate 64 QueueCfg.cold, groups := Vector.replicate 16 GroupCfg.cold,
    points := Vector.ofFn PointCfg.cold, secondsLow := 0, secondsHigh := 0, mains := 4095, battery := 4095,
    linkThreshold := 16, presentDebounce := 50, latchDebounce := 20, rampTimeout := 200, linkTimeout := 2000,
    drainTimeout := 500, powerDownDelay := 100, retryLimit := 3, refs := Vector.replicate 2 RefCfg.cold,
    gate := 10000, missLimit := 3, lockCount := 8, ki := 4, kp := 2, stepThreshold := 10000, lockWindow := 200,
    holdoverLimit := 14400, scanInterval := 100, senses := Vector.replicate 8 .levelHigh,
    channels := Vector.replicate 8 ChannelCfg.cold, logBase := 0, logCode := 0, logRead := 0,
    relays := Vector.replicate 4 RelayCfg.cold }

/-! ## The whole state -/

/-- Shared memory: the bytes that differ from the fill, by rising address. -/
abbrev Memory := List Host.Cell

/-- The machine. -/
structure State where
  /-- The commands that wait, first in first out. -/
  pending : List Instr
  /-- The memory size and region placement as the last cold reset sampled them (R22, R189). -/
  memSize : MemSize
  regionTop : Bool
  /-- Cold start-up: how many of its 256 transactions have completed, none once it has ended (R193). -/
  startUp : Option Nat
  /-- Whether a WARM_RESET is pending (R194). -/
  warmPending : Bool
  /-- The control shadow's copy (R189). -/
  cfg : Cfg
  /-- Shared memory. -/
  mem : Memory
  /-- The link ports (chapter 1). -/
  links : Vector LinkPort 12
  /-- The access-fault records (R25). -/
  access : Vector AccessRecord 12
  /-- The memory port (section 2.6). -/
  port : MemPort
  /-- The queue table's tracked state (R40). -/
  queues : Vector Queue 64
  /-- The notice lists (R59). -/
  lists : Vector NoticeList 12
  /-- The staging unit (section 5.1): the groups, the staging list, the rounds in the order they will be served, and
  whether the engine is serving the first of them. -/
  groups : Vector Group 16
  staged : List Staged
  rounds : List GroupId
  serving : Bool
  /-- The timebase and the two references (chapter 6). -/
  time : Timebase
  refs : Vector Reference 2
  /-- The frame number in force and the TIME latches (chapter 7). -/
  frame : Nat
  latches : Vector Latch 12
  /-- The swap sequencer (chapter 8). -/
  swaps : Vector Swap 12
  /-- The admission unit: committed draws and shed marks, and whether the battery budget is in force (chapter 9). -/
  adm : Vector Admission 12
  onBattery : Bool
  /-- The alarm unit (chapter 10) and the log writer (chapter 12). -/
  points : Vector Point 58
  relays : Vector Relay 4
  log : LogWriter
  /-- The environment monitor (chapter 11): the latest contact samples, whether each contact's sample of
  this tick is still to be taken,  the channels and the scan state. -/
  contacts : Vector Bool 8
  contactDue : Vector Bool 8
  channels : Vector Channel 8
  scan : Scan
  /-- The change marks of each reader (R188). -/
  marks : Vector Marks 12
  deriving DecidableEq, Repr

/-- Why a step could stop with a fault. There is none: the manual gives every command an effect in every state, and an
access outside the memory fitted is dropped, filled and counted by the window unit (R21, R23), never a stop. -/
inductive Fault where
  deriving DecidableEq, Repr

/-- Why a step could be refused. -/
inductive Refusal where
  /-- A command that has no meaning yet, by its mnemonic; raised by `exec` alone. Safe: the machine stops. No arm of
  `exec` answers it now. -/
  | notModelled (mnemonic : String)
  deriving DecidableEq, Repr

/-- Point 48 after a cold reset: the loop is in FREE, the point is enabled and its raise debounce is 0, so it is RAISED
with a raise count of 1 (R160). -/
def Point.loopNotLocked : Point := { state := .raised, acked := false, count := 1, timer := none, cond := true }

/-- The points after a cold reset (R158, R160): each level point's record takes its source's condition. The contacts are
in LEVEL_HIGH (R173) and their points disabled, so a high contact gives the record alone. -/
def coldPoint (contacts : Vector Bool 8) (p : PointId) : Point :=
  if p.val = 48 then Point.loopNotLocked
  else { Point.cold with cond := decide (24 ≤ p.val ∧ p.val < 32) && contacts.toList.getD (p.val - 24) false }

/-- The state a cold reset leaves, over the memory it finds and the commands that wait. Cold start-up begins with none of
its transactions completed (R193). The only change marks set are point 48's (R188). -/
def State.cold (straps : Straps) (mem : Memory) (pending : List Instr) : State :=
  { pending := pending, memSize := straps.size, regionTop := straps.regionTop, startUp := some 0, warmPending := false,
    cfg := Cfg.cold straps.size, mem := mem, links := Vector.replicate 12 LinkPort.cold,
    access := Vector.replicate 12 { count := 0, last := none }, port := MemPort.cold,
    queues := Vector.replicate 64 Queue.cold, lists := Vector.replicate 12 NoticeList.blank,
    groups := Vector.replicate 16 Group.cold, staged := [], rounds := [], serving := false, time := Timebase.cold,
    refs := Vector.replicate 2 Reference.cold, frame := 0, latches := Vector.replicate 12 Latch.cold,
    swaps := Vector.replicate 12 Swap.cold, adm := Vector.replicate 12 Admission.cold, onBattery := false,
    points := Vector.ofFn (coldPoint straps.contacts), relays := Vector.replicate 4 Relay.cold, log := LogWriter.cold,
    contacts := straps.contacts, contactDue := Vector.replicate 8 false, channels := Vector.replicate 8 Channel.cold, scan := Scan.cold,
    marks := Vector.replicate 12 { swap := 0#12, points := 1#58 <<< 48 } }

/-- The machine right after reset: a cold reset of a part whose memory nothing has written, with no command waiting. -/
def State.reset : State := State.cold Config.resetStraps [] []

end Sys2Proof.Machine
end

