-- ==== Sys2Proof/Machine/Codes.lean ====
section
/-! DEFINITION. The codes of section 13.6: what number stands for each state, reason, severity and kind in the words that
software and cards see, and what a written code names. -/

namespace Sys2Proof.Machine

open Sys2Proof

/-- Swap state codes (section 13.6, common codes). -/
def swapCode : SwapState → Nat
  | .empty => 0
  | .seated => 1
  | .powering => 2
  | .linking => 3
  | .active => 4
  | .quiescing => 5
  | .fenced => 6
  | .off => 7
  | .faulted => 8
  | .lockedOut => 9

/-- Reason and cause codes (section 13.6, common codes). -/
def reasonCode : Reason → Nat
  | .noReason => 0
  | .latch => 1
  | .command => 2
  | .shed => 3
  | .policy => 4
  | .ramp => 5
  | .link => 6
  | .overcurrent => 7
  | .powerLost => 8
  | .linkLost => 9
  | .surprise => 10

/-- Severity codes; they also rank the severities, the highest first (R63, R159). -/
def severityCode : Severity → Nat
  | .critical => 0
  | .major => 1
  | .minor => 2
  | .warning => 3

/-- The severity a two-bit code names. -/
def severityOf : Nat → Severity
  | 0 => .critical
  | 1 => .major
  | 2 => .minor
  | _ => .warning

/-- Loop state codes (section 13.6, common codes). -/
def loopCode : LoopState → Nat
  | .free => 0
  | .acquire => 1
  | .locked => 2
  | .holdover => 3

/-- Point state codes (section 13.6, common codes). -/
def pointStateCode : PointState → Nat
  | .clear => 0
  | .rising => 1
  | .raised => 2
  | .falling => 3

/-- Access-fault kind codes (section 13.6, common codes); 0 is absent. -/
def accessCode : AccessKind → Nat
  | .unmapped => 1
  | .rights => 2
  | .control => 3
  | .queueEndpoint => 4
  | .queueNotOpen => 5
  | .underrun => 6
  | .partServedWrite => 7

/-- Change codes of an ALARM notice (section 13.6). -/
def changeCode : Change → Nat
  | .raised => 0
  | .clear => 1
  | .repeated => 2
  | .ack => 3

/-- Kind codes of a log record (section 13.6). -/
def logKindCode : LogKind → Nat
  | .change .raised => 0
  | .change .clear => 1
  | .change .ack => 2
  | .change .repeated => 3
  | .lost => 4

/-- Commit result codes (section 13.6). -/
def commitCode : CommitResult → Nat
  | .ok => 0
  | .torn => 1
  | .discontinuity => 2

/-- DATA status codes (section 13.6). -/
def dataStatusCode : DataStatus → Nat
  | .ok => 0
  | .unmapped => 1
  | .rights => 2

/-- Link state codes of the status window (section 13.6). -/
def linkCode : LinkState → Nat
  | .off => 0
  | .aligning => 1
  | .measuring => 2
  | .opened => 3
  | .fenced => 4

/-- Queue state codes of the status window (section 13.6). -/
def queueCode : QueueState → Nat
  | .closed => 0
  | .waiting => 1
  | .opening => 2
  | .opened => 3
  | .detached => 4

/-- OPEN result codes of the status window (section 13.6). -/
def openResultCode : OpenResult → Nat
  | .noResult => 0
  | .badDescriptor => 1
  | .overlap => 2

/-- Group state codes of the arm word and the status window (section 13.6). -/
def groupCode : GroupState → Nat
  | .opened => 0
  | .armed => 1
  | .committing => 2

/-- Force state codes of the status window (section 13.6). -/
def forceCode : Force → Nat
  | .follow => 0
  | .on => 1
  | .off => 2

/-- Policy codes (section 13.6, slot record). -/
def policyCode : Policy → Nat
  | .auto => 0
  | .manual => 1
  | .disabled => 2

/-- The policy a written code names; a code that names none keeps the previous policy (R130). -/
def policyOf (old : Policy) : Nat → Policy
  | 0 => .auto
  | 1 => .manual
  | 2 => .disabled
  | _ => old

/-- Window kind codes (section 13.6, window record). -/
def kindCode : WindowKind → Nat
  | .plain => 0
  | .staged => 1
  | .time => 2
  | .status => 3

/-- The kind a written code names; a code that names none keeps the previous kind (R20). -/
def kindOf (old : WindowKind) : Nat → WindowKind
  | 0 => .plain
  | 1 => .staged
  | 2 => .time
  | 3 => .status
  | _ => old

/-- Rights codes (section 13.6, window record). -/
def rightsCode : Rights → Nat
  | .read => 1
  | .write => 2
  | .readWrite => 3

/-- The rights a written code names; a code that names none keeps the previous rights (R20). -/
def rightsOf (old : Rights) : Nat → Rights
  | 1 => .read
  | 2 => .write
  | 3 => .readWrite
  | _ => old

/-- Relay mode codes (section 13.6, global record). -/
def relayModeCode : RelayMode → Nat
  | .anyActive => 0
  | .anyUnacked => 1
  | .allActive => 2

/-- The relay mode a written code names; a code that names none keeps the previous mode (R168). -/
def relayModeOf (old : RelayMode) : Nat → RelayMode
  | 0 => .anyActive
  | 1 => .anyUnacked
  | 2 => .allActive
  | _ => old

/-- Sense mode codes (section 13.6, global record). -/
def senseCode : SenseMode → Nat
  | .levelHigh => 0
  | .levelLow => 1
  | .rising => 2
  | .falling => 3
  | .anyEdge => 4

/-- The sense mode a written code names; a code that names none keeps the previous mode (R173). -/
def senseOf (old : SenseMode) : Nat → SenseMode
  | 0 => .levelHigh
  | 1 => .levelLow
  | 2 => .rising
  | 3 => .falling
  | 4 => .anyEdge
  | _ => old

end Sys2Proof.Machine
end

