-- ==== Sys2Proof/Machine/Fields.lean ====
section
/-! DEFINITION. Bit fields of words, clamping and saturating counts, and the rounding division (00_scope.md, Conventions;
R97; section 13.5). -/

namespace Sys2Proof.Machine

open Sys2Proof

/-- The field of `len` bits of `w` whose lowest bit is `lo` (R195). -/
def bits (w : Word) (lo len : Nat) : Nat := (w.toNat >>> lo) % 2 ^ len

/-- Bit `lo` of `w`. -/
def bit (w : Word) (lo : Nat) : Bool := w.getLsbD lo

/-- `w` with the field of `len` bits at `lo` replaced by `v`. -/
def putBits (w : Word) (lo len v : Nat) : Word :=
  BitVec.ofNat 32 (w.toNat - bits w lo len <<< lo + (v % 2 ^ len) <<< lo)

/-- The word whose fields, each given by its lowest bit and its value, are those listed, and 0 elsewhere (R195). -/
def pack (fields : List (Nat × Nat)) : Word := BitVec.ofNat 32 (fields.foldl (fun a f => a + f.2 <<< f.1) 0)

/-- Two's complement of a signed value (R195). -/
def signedWord (x : Int) : Word := BitVec.ofInt 32 x

/-- A value taken to the nearer end of its range. -/
def clamp (lo hi v : Nat) : Nat := max lo (min hi v)

/-- A saturating count grown by `k` (00_scope.md, Conventions). -/
def satAdd (cap a k : Nat) : Nat := min cap (a + k)

/-- A signed value limited to ±`m`. -/
def limit (m : Int) (x : Int) : Int := max (-m) (min m x)

/-- The mask of the bits of the bytes that `be` enables (R1): bit k of the enables stands for byte k, bits 8k + 7 to 8k of the
word (log entry 51). -/
def laneMask (be : Mask) : Word :=
  (if be.getLsbD 0 then 0x000000FF#32 else 0#32) ||| (if be.getLsbD 1 then 0x0000FF00#32 else 0#32) |||
    (if be.getLsbD 2 then 0x00FF0000#32 else 0#32) ||| (if be.getLsbD 3 then 0xFF000000#32 else 0#32)

/-- Each enabled byte from `new`, each other byte from `old` (R47, R75, R191). -/
def mergeBytes (old new : Word) (be : Mask) : Word := (new &&& laneMask be) ||| (old &&& ~~~(laneMask be))

/-- div_r(x, k): x divided by 2^k, rounded to nearest with halves away from zero (R97). -/
def divR (x : Int) (k : Nat) : Int :=
  if k = 0 then x
  else
    let q : Int := ((x.natAbs + 2 ^ (k - 1)) / 2 ^ k : Nat)
    if x < 0 then -q else q

/-- The difference a − b mod 65,536 of two 16-bit indices (R40, R49, R182). -/
def index16 (a b : Nat) : Nat := (a + 65536 - b % 65536) % 65536

/-- 1 for true, 0 for false, as a bit of a layout. -/
def flag (b : Bool) : Nat := if b then 1 else 0

end Sys2Proof.Machine
end

