-- ==== Sys2Proof/Machine/Operands.lean ====
section
/-! DEFINITION. The words of the control region as operands: which record and word an index of the region names (section
13.6, map), the word the copy holds there, and each record's fields judged from a formed word (R191), apart from the
holds that look at other blocks' state. -/

namespace Sys2Proof.Machine

open Sys2Proof

/-! ## The map -/

/-- A word of the region: the global record's word k, a record's word k, or a word with no field. -/
inductive RegionLoc where
  | global (k : Nat)
  | slot (n : SlotId) (k : Nat)
  | window (w : WindowId) (k : Nat)
  | queue (q : QueueId) (k : Nat)
  | group (g : GroupId) (k : Nat)
  | point (p : PointId) (k : Nat)
  | blank
  deriving DecidableEq, Repr

/-- The control region map (section 13.6): the word at byte offset 4 × idx. -/
def locate (idx : RegionIdx) : RegionLoc :=
  if _h0 : idx.val < 0x40 then .global idx.val
  else if h1 : idx.val < 0x70 then .slot ⟨(idx.val - 0x40) / 4, by omega⟩ ((idx.val - 0x40) % 4)
  else if _h2 : idx.val < 0x80 then .blank
  else if h3 : idx.val < 0x200 then .window ⟨(idx.val - 0x80) / 4, by omega⟩ ((idx.val - 0x80) % 4)
  else if h4 : idx.val < 0x300 then .queue ⟨(idx.val - 0x200) / 4, by omega⟩ ((idx.val - 0x200) % 4)
  else if h5 : idx.val < 0x340 then .group ⟨(idx.val - 0x300) / 4, by omega⟩ ((idx.val - 0x300) % 4)
  else if h6 : idx.val < 0x3B4 then .point ⟨(idx.val - 0x340) / 2, by omega⟩ ((idx.val - 0x340) % 2)
  else .blank

/-- The index of the global record's word k. -/
def globalIdx (k : Fin 64) : RegionIdx := ⟨k.val, by omega⟩
/-- The index of word k of slot record n. -/
def slotIdx (n : SlotId) (k : Fin 4) : RegionIdx := ⟨0x40 + 4 * n.val + k.val, by omega⟩
/-- The index of word k of window record w. -/
def windowIdx (w : WindowId) (k : Fin 4) : RegionIdx := ⟨0x80 + 4 * w.val + k.val, by omega⟩
/-- The index of word k of queue descriptor q. -/
def queueIdx (q : QueueId) (k : Fin 4) : RegionIdx := ⟨0x200 + 4 * q.val + k.val, by omega⟩
/-- The index of word k of group record g. -/
def groupIdx (g : GroupId) (k : Fin 4) : RegionIdx := ⟨0x300 + 4 * g.val + k.val, by omega⟩
/-- The index of word k of point record p. -/
def pointIdx (p : PointId) (k : Fin 2) : RegionIdx := ⟨0x340 + 2 * p.val + k.val, by omega⟩

/-! ## The words the copy holds -/

/-- A slot record's words (section 13.6). The command word of the copy is always 0 (R192). -/
def slotImage (c : SlotCfg) : Nat → Word
  | 0 => pack [(0, policyCode c.policy), (4, flag c.right), (8, c.shedPriority), (16, c.draw)]
  | 1 => pack [(0, flag c.frameSub), (1, flag c.alarmSub), (4, severityCode c.alarmThreshold), (8, flag c.swapSub)]
  | _ => 0#32

/-- A window record's words (section 13.6). -/
def windowImage (c : WindowCfg) : Nat → Word
  | 0 => pack [(0, flag c.valid), (4, kindCode c.kind), (8, rightsCode c.rights), (16, c.size), (24, c.group.val)]
  | 1 => pack [(0, c.localBase)]
  | 2 => pack [(0, c.physBase)]
  | _ => 0#32

/-- A queue descriptor's words (section 13.6). -/
def queueImage (c : QueueCfg) : Nat → Word
  | 0 => pack [(0, c.base)]
  | 1 => pack [(0, c.cellSize), (8, c.cellCount), (16, c.producer), (24, c.consumer)]
  | 2 => pack [(0, c.high), (16, c.low)]
  | _ => 0#32

/-- A group record's words (section 13.6). -/
def groupImage (c : GroupCfg) : Nat → Word
  | 0 => pack [(0, flag c.valid)]
  | 1 => pack [(0, c.base)]
  | 2 => pack [(0, c.pages)]
  | _ => 0#32

/-- A point record's words (section 13.6). -/
def pointImage (c : PointCfg) : Nat → Word
  | 0 => pack [(0, flag c.enable), (1, flag c.latched), (2, flag c.shedTrigger), (4, severityCode c.severity),
      (8, c.relays.toNat)]
  | _ => pack [(0, c.raiseDebounce), (16, c.clearDebounce)]

/-- A channel's word (section 13.6, 68h to 84h). -/
def channelImage (c : ChannelCfg) : Word :=
  pack [(0, c.low), (10, c.high), (20, c.hysteresis), (31, flag c.enable)]

/-- A relay's word (section 13.6, 94h to A0h). -/
def relayImage (c : RelayCfg) : Word :=
  pack [(0, severityCode c.threshold), (4, relayModeCode c.mode), (8, flag c.deenergise)]

/-- The sense mode word (section 13.6, 64h). -/
def senseImage (m : Vector SenseMode 8) : Word :=
  pack ((List.finRange 8).map fun i => (3 * i.val, senseCode m[i]))

/-- The global record's word k, at byte offset 4k (section 13.6). Command words hold 0 (R192). -/
def globalImage (c : Cfg) (k : Nat) : Word :=
  match k with
  | 3 => pack [(0, c.secondsLow)]
  | 4 => pack [(0, c.secondsHigh)]
  | 9 => pack [(0, c.mains), (16, c.battery)]
  | 10 => pack [(0, c.linkThreshold)]
  | 11 => pack [(0, c.presentDebounce), (16, c.latchDebounce)]
  | 12 => pack [(0, c.rampTimeout), (16, c.linkTimeout)]
  | 13 => pack [(0, c.drainTimeout), (16, c.powerDownDelay)]
  | 14 => pack [(0, c.retryLimit)]
  | 15 => pack [(0, flag c.refs[0].enable), (4, c.refs[0].priority)]
  | 16 => pack [(0, c.refs[0].delay)]
  | 17 => pack [(0, flag c.refs[1].enable), (4, c.refs[1].priority)]
  | 18 => pack [(0, c.refs[1].delay)]
  | 19 => pack [(0, c.gate)]
  | 20 => pack [(0, c.missLimit), (8, c.lockCount), (16, c.ki), (24, c.kp)]
  | 21 => pack [(0, c.stepThreshold)]
  | 22 => pack [(0, c.lockWindow)]
  | 23 => pack [(0, c.holdoverLimit)]
  | 24 => pack [(0, c.scanInterval)]
  | 25 => senseImage c.senses
  | 34 => pack [(0, c.logBase)]
  | 35 => pack [(0, c.logCode)]
  | 36 => pack [(0, c.logRead)]
  | k =>
    if h : 26 ≤ k ∧ k < 34 then channelImage c.channels[k - 26]
    else if h : 37 ≤ k ∧ k < 41 then relayImage c.relays[k - 37]
    else 0#32

/-- The word the copy holds at an index of the region (R189): 0 where the map gives no field. -/
def image (c : Cfg) (idx : RegionIdx) : Word :=
  match locate idx with
  | .global k => globalImage c k
  | .slot n k => slotImage c.slots[n] k
  | .window w k => windowImage c.windows[w] k
  | .queue q k => queueImage c.queues[q] k
  | .group g k => groupImage c.groups[g] k
  | .point p k => pointImage c.points[p] k
  | .blank => 0#32

/-! ## Judging the fields of a formed word (R191, step 2) -/

/-- A slot record's word 0, without the control right, which R190 may hold (R130, R150). -/
def judgeSlotWord (old : SlotCfg) (w : Word) : SlotCfg :=
  { old with policy := policyOf old.policy (bits w 0 2), shedPriority := bits w 8 3, draw := bits w 16 10 }

/-- A slot record's word 1, the subscriptions (R63). -/
def judgeSubscriptions (old : SlotCfg) (w : Word) : SlotCfg :=
  { old with frameSub := bit w 0, alarmSub := bit w 1, alarmThreshold := severityOf (bits w 4 2), swapSub := bit w 8 }

/-- A window record's word k (R20). -/
def judgeWindow (old : WindowCfg) (k : Nat) (w : Word) : WindowCfg :=
  match k with
  | 0 =>
    { old with valid := bit w 0, kind := kindOf old.kind (bits w 4 3), rights := rightsOf old.rights (bits w 8 2),
               size := clamp 12 28 (bits w 16 5), group := ⟨bits w 24 4, Nat.mod_lt _ (by decide)⟩ }
  | 1 => { old with localBase := bits w 12 20 * 4096 }
  | 2 => { old with physBase := bits w 12 16 * 4096 }
  | _ => old

/-- The number of cells of a ring (R40). -/
def cellsOf (c : QueueCfg) : Nat := 2 ^ c.cellCount

/-- A watermark after a write of its word: clamped in its own write, one that enables a byte of it, and left as it is in any
other (R39). -/
def judgeMark (own : Bool) (lo hi old v : Nat) : Nat := if own then clamp lo hi v else old

/-- A queue descriptor's word k, 0 to 2 (R39). Both watermarks are judged against the fields in force when the write is
taken, so LW against the HW that stood before it. -/
def judgeQueue (old : QueueCfg) (k : Nat) (be : Mask) (w : Word) : QueueCfg :=
  match k with
  | 0 => { old with base := bits w 6 22 * 64 }
  | 1 =>
    { old with cellSize := clamp 4 8 (bits w 0 4), cellCount := clamp 1 12 (bits w 8 4), producer := bits w 16 4,
               consumer := bits w 24 4 }
  | 2 =>
    { old with high := judgeMark (be.getLsbD 0 || be.getLsbD 1) 1 (cellsOf old) old.high (bits w 0 13),
               low := judgeMark (be.getLsbD 2 || be.getLsbD 3) 0 (old.high - 1) old.low (bits w 16 13) }
  | _ => old

/-- A group record's word k, before R73's holds. -/
def judgeGroup (old : GroupCfg) (k : Nat) (w : Word) : GroupCfg :=
  match k with
  | 0 => { old with valid := bit w 0 }
  | 1 => { old with base := bits w 12 16 * 4096 }
  | 2 => { old with pages := clamp 1 256 (bits w 0 9) }
  | _ => old

/-- A point record's word k (R159). -/
def judgePoint (old : PointCfg) (k : Nat) (w : Word) : PointCfg :=
  match k with
  | 0 =>
    { old with enable := bit w 0, latched := bit w 1, shedTrigger := bit w 2, severity := severityOf (bits w 4 2),
               relays := BitVec.ofNat 4 (bits w 8 4) }
  | _ => { old with raiseDebounce := bits w 0 16, clearDebounce := bits w 16 16 }

/-- A channel's word (R175). -/
def judgeChannel (w : Word) : ChannelCfg :=
  { low := bits w 0 10, high := bits w 10 10, hysteresis := bits w 20 8, enable := bit w 31 }

/-- A relay's word (R168). -/
def judgeRelay (old : RelayCfg) (w : Word) : RelayCfg :=
  { threshold := severityOf (bits w 0 2), mode := relayModeOf old.mode (bits w 4 2), deenergise := bit w 8 }

/-- The sense mode word (R173). -/
def judgeSenses (old : Vector SenseMode 8) (w : Word) : Vector SenseMode 8 :=
  Vector.ofFn fun i => senseOf old[i] (bits w (3 * i.val) 3)

/-- The capacity code: 0 names no log, 4 to 12 name 2^k records, and any other keeps the previous code (R181). -/
def logCodeOf (old : Nat) (w : Word) : Nat :=
  if w.toNat = 0 ∨ (4 ≤ w.toNat ∧ w.toNat ≤ 12) then w.toNat else old

/-- The words of the global record that are settings alone: clamped to their ranges and taken, with no act at the taking
(R13, R98, R101, R105, R108, R131, R178). -/
def judgeSetting (c : Cfg) (k : Nat) (w : Word) : Cfg :=
  match k with
  | 3 => { c with secondsLow := w.toNat }
  | 4 => { c with secondsHigh := bits w 0 16 }
  | 10 => { c with linkThreshold := clamp 1 65535 (bits w 0 16) }
  | 11 => { c with presentDebounce := clamp 1 1000 (bits w 0 16), latchDebounce := clamp 1 1000 (bits w 16 16) }
  | 12 => { c with rampTimeout := clamp 10 5000 (bits w 0 16), linkTimeout := clamp 100 10000 (bits w 16 16) }
  | 13 => { c with drainTimeout := clamp 0 10000 (bits w 0 16), powerDownDelay := clamp 0 5000 (bits w 16 16) }
  | 14 => { c with retryLimit := clamp 1 7 (bits w 0 3) }
  | 16 => { c with refs := c.refs.set 0 { c.refs[0] with delay := clamp 0 999999 (bits w 0 20) } }
  | 18 => { c with refs := c.refs.set 1 { c.refs[1] with delay := clamp 0 999999 (bits w 0 20) } }
  | 19 => { c with gate := clamp 100 10000000 (bits w 0 24) }
  | 20 =>
    { c with missLimit := clamp 1 7 (bits w 0 3), lockCount := clamp 1 15 (bits w 8 4), ki := bits w 16 3,
             kp := bits w 24 3 }
  | 21 => { c with stepThreshold := clamp 100 1000000 (bits w 0 20) }
  | 22 => { c with lockWindow := clamp 10 100000 (bits w 0 17) }
  | 23 => { c with holdoverLimit := clamp 0 86400 (bits w 0 17) }
  | 24 => { c with scanInterval := clamp 10 10000 (bits w 0 14) }
  | _ => c

/-- The budget word (R149): each budget clamped to 4,095. -/
def judgeBudgets (c : Cfg) (w : Word) : Cfg :=
  { c with mains := clamp 0 4095 (bits w 0 16), battery := clamp 0 4095 (bits w 16 16) }

/-! ## The bytes of a burst (R1) -/

/-- The byte enables of word i of a WRITE of `count` words (R1): the first word's set, the last word's set, both in a
one-word WRITE, and all four bytes of an inner word. -/
def enablesOf (first last : Mask) (count i : Nat) : Mask :=
  (if i = 0 then first else Mask.all) &&& (if i + 1 = count then last else Mask.all)

/-- The slot address of a burst's first word: its two low bits are ignored (R1). -/
def firstWord (addr : Word) : Nat := addr.toNat / 4 * 4

end Sys2Proof.Machine
end

