-- ==== Sys2Proof/Machine/Flags.lean ====
section
/-! DEFINITION. The conditions the blocks read from one another's state: which slots are live, which are candidates for
power, which points are active, the relays' alarm states, the ranges that may not overlap. Nothing here changes state. -/

namespace Sys2Proof.Machine

open Sys2Proof

/-! ## Places in memory -/

/-- The first byte of the control region (R189). -/
def regionBase (s : State) : Nat := if s.regionTop then MemSize.bytes s.memSize - 16384 else 0

/-- Whether a physical address lies in the control region (R189). -/
def inRegion (s : State) (a : Nat) : Bool := decide (regionBase s ≤ a ∧ a < regionBase s + 16384)

/-- The region index of a physical word address (R189). -/
def regionIdx (s : State) (a : Nat) : RegionIdx := ⟨(a - regionBase s) / 4 % 4096, Nat.mod_lt _ (by decide)⟩

/-- The bytes of a group's range (section 5.1). -/
def groupBytes (c : GroupCfg) : Nat := c.pages * 4096

/-- Whether a physical address lies in a group's range (R28). -/
def inGroup (c : GroupCfg) (a : Nat) : Bool := decide (c.base ≤ a ∧ a < c.base + groupBytes c)

/-- The arm word's address: the last word of the range (section 5.1). -/
def armAddr (c : GroupCfg) : Nat := c.base + groupBytes c - 4

/-- A ring's footprint: 64 + count × cell size bytes (R40). -/
def ringBytes (c : QueueCfg) : Nat := 64 + cellsOf c * 2 ^ c.cellSize

/-- The log's capacity in records, 0 with no log (R181). -/
def logCapacity (code : Nat) : Nat := if code = 0 then 0 else 2 ^ code

/-- Whether two byte ranges, each a first byte and a length, share a byte. -/
def overlaps (a : Nat) (la : Nat) (b : Nat) (lb : Nat) : Bool := decide (a < b + lb ∧ b < a + la ∧ 0 < la ∧ 0 < lb)

/-- Whether a range shares a byte with the control region. -/
def overRegion (s : State) (a la : Nat) : Bool := overlaps a la (regionBase s) 16384

/-- Whether a range shares a byte with a valid group's range, group `except` left out (R41, R73, R181). -/
def overGroups (s : State) (except : Option GroupId) (a la : Nat) : Bool :=
  (List.finRange 16).any fun g =>
    decide (some g ≠ except) && s.cfg.groups[g].valid && overlaps a la s.cfg.groups[g].base (groupBytes s.cfg.groups[g])

/-- Whether a range shares a byte with the ring of a queue that is not CLOSED, queue `except` left out (R41, R73, R181). -/
def overRings (s : State) (except : Option QueueId) (a la : Nat) : Bool :=
  (List.finRange 64).any fun q =>
    decide (some q ≠ except) && decide (s.queues[q].state ≠ .closed) &&
      overlaps a la s.cfg.queues[q].base (ringBytes s.cfg.queues[q])

/-- Whether a range shares a byte with the alarm log ring, when the capacity is above 0 (R41, R73). -/
def overLog (s : State) (a la : Nat) : Bool := overlaps a la s.cfg.logBase (logCapacity s.cfg.logCode * 16)

/-! ## Slots -/

/-- A slot is live in ACTIVE and QUIESCING (00_scope.md, Terms; R60). -/
def liveState (st : SwapState) : Bool := decide (st = .active ∨ st = .quiescing)

/-- Whether slot n is live. -/
def live (s : State) (n : SlotId) : Bool := liveState s.swaps[n].state

/-- Whether a descriptor's slot number names a live slot (R44). -/
def liveNumber (s : State) (k : Nat) : Bool := if h : k < 12 then live s ⟨k, h⟩ else false

/-- The powered states: POWERING, LINKING, ACTIVE, QUIESCING and FENCED (R129). -/
def powered (st : SwapState) : Bool :=
  decide (st = .powering ∨ st = .linking ∨ st = .active ∨ st = .quiescing ∨ st = .fenced)

/-- The states with link enable on (R129). -/
def linkEnabled (st : SwapState) : Bool :=
  decide (st = .linking ∨ st = .active ∨ st = .quiescing ∨ st = .fenced)

/-- The states with READY lit (R129). -/
def readyLit (st : SwapState) : Bool := decide (st = .off ∨ st = .lockedOut)

/-- The condition of alarm points 0 to 11 (R144). -/
def faultCondition (st : SwapState) : Bool := decide (st = .faulted ∨ st = .lockedOut)

/-- What R133 asks of a slot before it may have power: LATCH closed, AUTO or MANUAL with the power request set, and cold
start-up ended. -/
def powerReady (s : State) (n : SlotId) : Bool :=
  s.swaps[n].latchClosed && decide (s.startUp = none) &&
    decide (s.cfg.slots[n].policy = .auto ∨ (s.cfg.slots[n].policy = .manual ∧ s.swaps[n].powerRequest = true))

/-- A candidate for power (R151). -/
def candidate (s : State) (n : SlotId) : Bool :=
  powerReady s n &&
    decide (s.swaps[n].state = .seated ∨ (s.swaps[n].state = .off ∧ s.swaps[n].reason = .shed))

/-- Whether candidate a ranks before candidate b: the lower shed priority, then the lower slot number (R151). -/
def ranksBefore (s : State) (a b : SlotId) : Bool :=
  decide (s.cfg.slots[a].shedPriority < s.cfg.slots[b].shedPriority ∨
    (s.cfg.slots[a].shedPriority = s.cfg.slots[b].shedPriority ∧ a < b))

/-- The head candidate (R151). -/
def headCandidate (s : State) : Option SlotId :=
  (List.finRange 12).foldl (fun best n =>
    if candidate s n then
      match best with
      | none => some n
      | some b => if ranksBefore s n b then some n else some b
    else best) none

/-- The committed total (R150). -/
def committedTotal (s : State) : Nat := (List.finRange 12).foldl (fun t n => t + s.adm[n].draw) 0

/-- The unmarked total (R150). -/
def unmarkedTotal (s : State) : Nat :=
  (List.finRange 12).foldl (fun t n => t + if s.adm[n].shed then 0 else s.adm[n].draw) 0

/-- The budget in force (R149). -/
def budgetInForce (s : State) : Nat := if s.onBattery then s.cfg.battery else s.cfg.mains

/-- Whether a slot is ramping (R152). -/
def ramping (s : State) : Bool := (List.finRange 12).any fun n => decide (s.swaps[n].state = .powering)

/-- Whether candidate n fits the budget in force (R152). -/
def fits (s : State) (n : SlotId) : Bool := decide (committedTotal s + s.cfg.slots[n].draw ≤ budgetInForce s)

/-- The slot the admission unit would admit now: the head, when it fits and no slot ramps (R152). -/
def admissible (s : State) : Option SlotId :=
  match headCandidate s with
  | some n => if fits s n && !ramping s then some n else none
  | none => none

/-- The next slot to mark for shedding: of the slots whose mark is clear and whose committed draw is above 0, the one with
the highest shed priority, then the highest slot number (R155). -/
def shedNext (s : State) : Option SlotId :=
  (List.finRange 12).foldl (fun best n =>
    if !s.adm[n].shed && decide (0 < s.adm[n].draw) then
      match best with
      | none => some n
      | some b => if ranksBefore s b n then some n else some b
    else best) none

/-! ## Links -/

/-- The degraded condition of link n (R14). -/
def degraded (l : LinkPort) : Bool := l.windowSource || l.echoSource

/-- Whether an outstanding read has its answer (R11). -/
def answered (e : ReadEntry) : Bool := e.words.all Option.isSome

/-- What the transmit side sends next (R12). -/
inductive Choice where
  | idle
  | go
  | hold
  | echo
  | data
  | notice
  deriving DecidableEq, Repr

/-- Whether a FRAME notice stands at the head of a list (R12). -/
def frameAtHead (l : NoticeList) : Bool :=
  match l.entries with
  | e :: _ => decide (e.id = .frame)
  | [] => false

/-- Whether the head of the outstanding-read list has its answer (R11). -/
def dataReady (l : LinkPort) : Bool :=
  match l.reads with
  | e :: _ => answered e
  | [] => false

/-- The choice in OPEN, first that applies (R12). -/
def openChoice (l : LinkPort) (list : NoticeList) : Choice :=
  if l.goOwed then .go
  else if l.mark = some .go then .go
  else if l.mark = some .hold then .hold
  else if l.echoDue then .echo
  else if frameAtHead list then .notice
  else if dataReady l then .data
  else if list.entries ≠ [] then .notice
  else .idle

/-- The frame the free transmit side of link n would choose, by the link state (R12). -/
def choice (s : State) (n : SlotId) : Option Choice :=
  if s.links[n].sending.isSome then none
  else
    match s.links[n].state with
    | .off => none
    | .aligning => some .idle
    | .measuring => some (if s.links[n].echoDue then .echo else .idle)
    | .opened => some (openChoice s.links[n] s.lists[n])
    | .fenced => some .idle

/-! ## Alarm points -/

/-- A point is active in RAISED and FALLING (R160). -/
def active (p : Point) : Bool := decide (p.state = .raised ∨ p.state = .falling)

/-- Whether a sense mode is an edge mode (R173). -/
def edgeMode (m : SenseMode) : Bool := decide (m = .rising ∨ m = .falling ∨ m = .anyEdge)

/-- The condition a contact's sample gives under a level mode (R173). -/
def sensed (m : SenseMode) (high : Bool) : Bool :=
  match m with
  | .levelHigh => high
  | .levelLow => !high
  | _ => false

/-- Whether point p is an event point (R158): points 50 and 53 to 57, and a contact's point in an edge mode. -/
def isEvent (s : State) (p : PointId) : Bool :=
  if h : 24 ≤ p.val ∧ p.val < 32 then edgeMode s.cfg.senses[p.val - 24]
  else decide (p.val = 50 ∨ 53 ≤ p.val)

/-- Whether point p behaves as latched (R159). -/
def latching (s : State) (p : PointId) : Bool := isEvent s p || s.cfg.points[p].latched

/-- Whether some active point carries a shed-trigger mark (R149). -/
def shedTriggered (s : State) : Bool :=
  (List.finRange 58).any fun p => s.cfg.points[p].shedTrigger && active s.points[p]

/-- Severity a is at or above severity b (R63, R168). -/
def atOrAbove (a b : Severity) : Bool := decide (severityCode a ≤ severityCode b)

/-- Whether point p is a member of relay k (R168). -/
def member (s : State) (k : RelayId) (p : PointId) : Bool :=
  s.cfg.points[p].relays.getLsbD k.val && atOrAbove s.cfg.points[p].severity s.cfg.relays[k].threshold

/-- The alarm state of relay k, formed from its member points by its mode (R169). -/
def relayAlarm (s : State) (k : RelayId) : Bool :=
  match s.cfg.relays[k].mode with
  | .anyActive => (List.finRange 58).any fun p => member s k p && active s.points[p]
  | .anyUnacked => (List.finRange 58).any fun p => member s k p && active s.points[p] && !s.points[p].acked
  | .allActive =>
    ((List.finRange 58).any fun p => member s k p && s.cfg.points[p].enable) &&
      (List.finRange 58).all fun p => !(member s k p && s.cfg.points[p].enable) || active s.points[p]

/-- Whether a relay stands in its alarm position (R170). -/
def alarmPosition (f : Force) (alarm : Bool) : Bool :=
  match f with
  | .follow => alarm
  | .on => true
  | .off => false

/-- The point of slot n's fault condition, of link n's degraded condition, of contact i, and of channel j's high and low
conditions (R158). -/
def slotPoint (n : SlotId) : PointId := ⟨n.val, by omega⟩
def linkPoint (n : SlotId) : PointId := ⟨12 + n.val, by omega⟩
def contactPoint (i : ContactId) : PointId := ⟨24 + i.val, by omega⟩
def highPoint (j : ChannelId) : PointId := ⟨32 + j.val, by omega⟩
def lowPoint (j : ChannelId) : PointId := ⟨40 + j.val, by omega⟩

/-! ## Queues and groups -/

/-- The occupancy o = (p − c) mod 65,536 (R40). -/
def occupancy (q : Queue) : Nat := index16 q.p q.c

/-- Whether slot n is an endpoint of the queue (section 3.2). -/
def endpoint (c : QueueCfg) (n : SlotId) : Bool := decide (c.producer = n.val ∨ c.consumer = n.val)

/-- Whether both endpoints of queue q are live (R44). -/
def bothLive (s : State) (q : QueueId) : Bool :=
  liveNumber s s.cfg.queues[q].producer && liveNumber s s.cfg.queues[q].consumer

/-- Whether some group is COMMITTING (R92). -/
def anyCommitting (s : State) : Bool := (List.finRange 16).any fun g => decide (s.groups[g].state = .committing)

/-- Whether a physical word lies in the range of a COMMITTING group (R32). -/
def underCommit (s : State) (a : Nat) : Bool :=
  (List.finRange 16).any fun g =>
    decide (s.groups[g].state = .committing) && s.cfg.groups[g].valid && inGroup s.cfg.groups[g] a

/-- Whether a READ of these words is held by a commit round (R32). -/
def readHeld (s : State) (addrs : List Nat) : Bool := addrs.any (underCommit s)

/-- Whether an entry of the staging list belongs to a round in flight (R84). -/
def inFlight (s : State) (e : Staged) : Bool := decide (s.groups[e.group].state = .committing) && !e.next

/-! ## Time -/

/-- The frame number of a cabinet time (R116). -/
def frameOf (sec ns : Nat) : Nat := (sec * 100 + ns / 10000000) % 1024

/-- Cabinet time now, in whole ns (R96). -/
def now (s : State) : Stamp := { sec := s.time.sec, ns := s.time.ns }

/-- The elapsed time from a whole-ns time to a later one (R96). -/
def elapsed (a b : Stamp) : Int := (((b.sec + 2 ^ 48 - a.sec % 2 ^ 48) % 2 ^ 48 : Nat) : Int) * 1000000000 + (b.ns : Int) - (a.ns : Int)

/-- A whole-ns time moved by x ns (R96). -/
def Stamp.move (x : Int) (t : Stamp) : Stamp :=
  let total : Int := (t.ns : Int) + x
  { sec := (((t.sec : Int) + total / 1000000000) % (2 ^ 48 : Int)).toNat, ns := (total % 1000000000).toNat }

/-- Whether a reference is enabled and QUALIFIED (R99). -/
def usable (s : State) (r : RefId) : Bool := s.cfg.refs[r].enable && s.refs[r].qualified

/-- The reference R99's rule chooses. -/
def chosenRef (s : State) : Option RefId :=
  if usable s 0 && usable s 1 then some (if s.cfg.refs[0].priority < s.cfg.refs[1].priority then 1 else 0)
  else if usable s 0 then some 0
  else if usable s 1 then some 1
  else none

/-- The condition of points 51 and 52: the reference is enabled and LOST (R98). -/
def refLost (s : State) (r : RefId) : Bool := s.cfg.refs[r].enable && !s.refs[r].qualified

/-! ## Timers -/

/-- A timer that has reached its last count (R94). -/
def due (t : Timer) : Bool := decide (t = some 0)

/-- A timer after one more divider tick (R94). A tick counts for every timer that an earlier command started, also one
started in the same period (log entry 48). -/
def Timer.tick : Timer → Timer
  | some (k + 1) => some k
  | t => t

end Sys2Proof.Machine
end

