-- ==== Sys2Proof/Machine/Update.lean ====
section
/-! DEFINITION. Updates of one member of a block's table. Every change of a table's member goes through these, so that a
lemma about each says what it leaves alone (Laws/State.lean). -/

namespace Sys2Proof.Machine

open Sys2Proof

/-- Changes link port n. -/
def State.modLink (s : State) (i : SlotId) (f : LinkPort → LinkPort) : State := { s with links := s.links.set i (f s.links[i]) }

/-- Changes access-fault record n. -/
def State.modAccess (s : State) (i : SlotId) (f : AccessRecord → AccessRecord) : State := { s with access := s.access.set i (f s.access[i]) }

/-- Changes the tracked state of queue q. -/
def State.modQueue (s : State) (i : QueueId) (f : Queue → Queue) : State := { s with queues := s.queues.set i (f s.queues[i]) }

/-- Changes notice list n. -/
def State.modList (s : State) (i : SlotId) (f : NoticeList → NoticeList) : State := { s with lists := s.lists.set i (f s.lists[i]) }

/-- Changes the state of group g. -/
def State.modGroup (s : State) (i : GroupId) (f : Group → Group) : State := { s with groups := s.groups.set i (f s.groups[i]) }

/-- Changes reference r. -/
def State.modRef (s : State) (i : RefId) (f : Reference → Reference) : State := { s with refs := s.refs.set i (f s.refs[i]) }

/-- Changes TIME latch n. -/
def State.modLatch (s : State) (i : SlotId) (f : Latch → Latch) : State := { s with latches := s.latches.set i (f s.latches[i]) }

/-- Changes slot n of the swap sequencer. -/
def State.modSwap (s : State) (i : SlotId) (f : Swap → Swap) : State := { s with swaps := s.swaps.set i (f s.swaps[i]) }

/-- Changes slot n of the admission unit. -/
def State.modAdm (s : State) (i : SlotId) (f : Admission → Admission) : State := { s with adm := s.adm.set i (f s.adm[i]) }

/-- Changes point p. -/
def State.modPoint (s : State) (i : PointId) (f : Point → Point) : State := { s with points := s.points.set i (f s.points[i]) }

/-- Changes relay k. -/
def State.modRelay (s : State) (i : RelayId) (f : Relay → Relay) : State := { s with relays := s.relays.set i (f s.relays[i]) }

/-- Changes channel j. -/
def State.modChannel (s : State) (i : ChannelId) (f : Channel → Channel) : State := { s with channels := s.channels.set i (f s.channels[i]) }

/-- Changes every reader's change marks (R188). -/
def State.modMarks (s : State) (f : Marks → Marks) : State := { s with marks := Vector.ofFn fun n => f s.marks[n] }

/-- Changes slot n's waiting transaction at the memory port. -/
def State.setWaiting (s : State) (n : SlotId) (t : Option SlotTxn) : State :=
  { s with port := { s.port with waiting := s.port.waiting.set n t } }

end Sys2Proof.Machine
end

