-- ==== Sys2Proof/Machine/Ops.lean ====
section
/-! DEFINITION. What the blocks hand the alarm unit inside one event, and the operations of the blocks that almost every
event reaches: the notice unit (chapter 4), the relays (section 10.5) and the log writer's judgement of a record (chapter
12).

A block's act is direct: the notices it hands and the blocks it reports to are part of the act. What sources hand the alarm
unit waits until the act is whole (Settle.lean). -/

namespace Sys2Proof.Machine

open Sys2Proof

/-- What a source hands the alarm unit, each taken as one event of a point (R158). -/
inductive Input where
  /-- An event of a point's source (R163). -/
  | event (p : PointId)
  /-- A level source's condition (R161, R162). -/
  | cond (p : PointId) (present : Bool)
  /-- A point's condition record set and judged anew when its kind changes (R165). -/
  | recond (p : PointId) (present : Bool)
  /-- A record dropped while point 57 was not active (R183). -/
  | logLoss
  deriving DecidableEq, Repr

/-- The point an input is for. -/
def Input.point : Input → PointId
  | .event p => p
  | .cond p _ => p
  | .recond p _ => p
  | .logLoss => 57

/-- A block's act: the state it leaves and what it hands the alarm unit. -/
abbrev Eff := State × List Input

/-- An act followed by another, what both hand on in the same order. -/
def Eff.andThen (e : Eff) (f : State → Eff) : Eff := ((f e.1).1, e.2 ++ (f e.1).2)

/-- Acts one after the other, what they hand on in the same order. -/
def foldEff {α : Type} (f : α → State → Eff) : List α → State → Eff
  | [], s => (s, [])
  | a :: rest, s =>
    let r := f a s
    let r' := foldEff f rest r.1
    (r'.1, r.2 ++ r'.2)

/-! ## Notice unit (chapter 4) -/

/-- A waiting entry after a notice of its identity merges into it (R62). -/
def mergeEntry (d : Details) (e : Entry) : Entry := { e with details := d, count := satAdd 255 e.count 1 }

/-- A list with the handed notice merged into its entry (R62). -/
def mergeNotice (id : NoticeId) (d : Details) (l : NoticeList) : NoticeList :=
  { l with entries := l.entries.map fun e => if e.id = id then mergeEntry d e else e }

/-- A list with a new entry: a FRAME at the head, any other at the tail (R62). -/
def addNotice (id : NoticeId) (d : Details) (l : NoticeList) : NoticeList :=
  let e : Entry := { id := id, details := d, count := 1 }
  { l with entries := if id = .frame then e :: l.entries else l.entries ++ [e] }

/-- Whether a list holds an entry of an identity. -/
def hasNotice (id : NoticeId) (l : NoticeList) : Bool := l.entries.any fun e => decide (e.id = id)

/-- A notice handed for slot n (R60, R62, R66, R67): merged, added, or lost. The loss that sets the overflow mark raises
the event of point 55. -/
def handNotice (n : SlotId) (id : NoticeId) (d : Details) (s : State) : Eff :=
  let l := s.lists[n]
  if !live s n then (s, [])
  else if hasNotice id l then (s.modList n (mergeNotice id d), [])
  else if hasNotice .resync l || l.overflow then (s, [])
  else if l.entries.length < 32 then (s.modList n (addNotice id d), [])
  else (s.modList n fun l => { l with overflow := true }, [.event 55])

/-- The RESYNC entry taken into a list that is empty with its mark set (R67). -/
def resyncList (l : NoticeList) : NoticeList :=
  if l.entries = [] ∧ l.overflow = true then
    { entries := [{ id := .resync, details := .blank, count := 1 }], overflow := false }
  else l

/-- Whether a notice's object is queue q (R68). -/
def aboutQueue (q : QueueId) : NoticeId → Bool
  | .queue _ q' => decide (q' = q)
  | _ => false

/-- Every notice of queue q removed from every list (R68). -/
def dropQueueNotices (q : QueueId) (s : State) : State :=
  { s with lists := Vector.ofFn fun n =>
      let l := s.lists[n]
      resyncList { l with entries := l.entries.filter fun e => !aboutQueue q e.id } }

/-- Every list emptied and every mark cleared (R70). -/
def emptyLists (s : State) : State := { s with lists := Vector.replicate 12 NoticeList.blank }

/-- The slots that hold a valid STAGED window on group g (R61). -/
def usesGroup (s : State) (g : GroupId) (n : SlotId) : Bool :=
  (List.finRange 8).any fun k =>
    let w := s.cfg.windows[8 * n.val + k.val]
    w.valid && decide (w.kind = .staged) && decide (w.group = g)

/-- One notice handed for each of several slots, with the details each receives. -/
def handAll (ns : List SlotId) (id : NoticeId) (d : SlotId → Details) (s : State) : Eff :=
  foldEff (fun n => handNotice n id (d n)) ns s

/-- The receivers of a COMMIT_DONE notice for group g: every live slot that uses it (R61, R89). -/
def commitReceivers (s : State) (g : GroupId) : List SlotId :=
  (List.finRange 12).filter fun n => live s n && usesGroup s g n

/-- A COMMIT_DONE notice for group g (R61, R89). -/
def handCommitDone (g : GroupId) (result : CommitResult) (count : Nat) (s : State) : Eff :=
  handAll (commitReceivers s g) (.commitDone g) (fun _ => .commit result count) s

/-- The receivers of a SWAP notice for slot n: every live slot subscribed to it, and the slot itself as it enters QUIESCING
(R64). -/
def swapReceivers (s : State) (n : SlotId) (st : SwapState) : List SlotId :=
  (List.finRange 12).filter fun m =>
    live s m && (s.cfg.slots[m].swapSub || (decide (m = n) && decide (st = .quiescing)))

/-- A SWAP notice for slot n (R64, R146). -/
def handSwapNotice (n : SlotId) (st : SwapState) (cause : Reason) (s : State) : Eff :=
  handAll (swapReceivers s n st) (.swap n) (fun _ => .swap st cause) s

/-! ## Relays (section 10.5) -/

/-- Relay k judged again: alarm state, position, output (R172). -/
def judgedRelay (s : State) (k : RelayId) : Relay :=
  let r := s.relays[k]
  let a := relayAlarm s k
  { r with alarm := a, energised := alarmPosition r.force a != s.cfg.relays[k].deenergise }

/-- Every relay judged again (R172). -/
def judgeRelays (s : State) : State := { s with relays := Vector.ofFn fun k => judgedRelay s k }

/-- Every relay whose mask bit is set takes a force state, and the relays are judged again (R171). -/
def forceRelays (mask : Nat) (f : Force) (s : State) : State :=
  judgeRelays
    { s with relays := Vector.ofFn fun k => if mask.testBit k.val then { s.relays[k] with force := f } else s.relays[k] }

/-! ## Points as other blocks see them (chapter 10) -/

/-- The value a log record of point p carries (R166). -/
def logValue (s : State) (p : PointId) : Nat :=
  if h : p.val < 12 then swapCode s.swaps[p.val].state
  else if 32 ≤ p.val ∧ p.val < 48 then (s.channels[p.val % 8].result).getD 0
  else 0

/-! ## Log writer: judging a record (section 12.2) -/

/-- Whether there is room for a record (R183). -/
def logRoom (s : State) : Bool :=
  decide (index16 s.log.accept s.cfg.logRead < logCapacity s.cfg.logCode ∧ s.log.queue.length < 128)

/-- A record accepted: it takes the accept index as its sequence number (R183). -/
def acceptRecord (d : LogDraft) (s : State) : State :=
  { s with log := { s.log with accept := (s.log.accept + 1) % 65536,
                               queue := s.log.queue ++ [{ seq := s.log.accept, draft := d }] } }

/-- A record dropped: the lost count grows, and point 57 is to get its event unless it is active (R183). -/
def dropRecord (s : State) : Eff :=
  ({ s with log := { s.log with lost := satAdd 65535 s.log.lost 1 } },
    if active s.points[(57 : PointId)] then [] else [.logLoss])

/-- The LOST record accepted ahead of a record, with the lost count as its value (R184). -/
def lostDraft (d : LogDraft) (s : State) : LogDraft :=
  { kind := .lost, point := 57, severity := s.cfg.points[(57 : PointId)].severity,
    count := s.points[(57 : PointId)].count, sec := d.sec, ns := d.ns, value := s.log.lost }

/-- The log writer judges a handed record: discarded, accepted, or dropped (R183, R184). -/
def takeRecord (d : LogDraft) (s : State) : Eff :=
  if logCapacity s.cfg.logCode = 0 then (s, [])
  else if logRoom s then
    if s.log.lost = 0 then (acceptRecord d s, [])
    else
      let s1 := acceptRecord (lostDraft d s) s
      let s2 := { s1 with log := { s1.log with lost := 0 } }
      if logRoom s2 then (acceptRecord d s2, []) else dropRecord s2
  else dropRecord s

/-- A slot's committed draw and shed mark cleared (R138, R140, R142). -/
def clearDraw (n : SlotId) (s : State) : State := s.modAdm n fun _ => Admission.cold

end Sys2Proof.Machine
end

