-- ==== Sys2Proof/Machine/Environment.lean ====
section
/-! DEFINITION. The environment monitor (chapter 11): contact samples and sense modes, the converter's passes, conversions
and thresholds. -/

namespace Sys2Proof.Machine

open Sys2Proof

/-! ## Contacts (R173, R174) -/

/-- What contact i's new sample hands to its point (R174). -/
def contactActs (i : ContactId) (m : SenseMode) (old new : Bool) : List Input :=
  if old = new then []
  else
    match m with
    | .levelHigh => [.cond (contactPoint i) (sensed m new)]
    | .levelLow => [.cond (contactPoint i) (sensed m new)]
    | .rising => if new then [.event (contactPoint i)] else []
    | .falling => if new then [] else [.event (contactPoint i)]
    | .anyEdge => [.event (contactPoint i)]

/-- Contact i's sample of one tick, an event of its own (R173). -/
def sampleContact (i : ContactId) (level : Bool) (s : State) : Eff :=
  ({ s with contacts := s.contacts.set i level, contactDue := s.contactDue.set i false },
    contactActs i s.cfg.senses[i] s.contacts[i] level)

/-- What a change of contact i's sense mode hands to its point (R165, R174). -/
def senseActs (i : ContactId) (old new : SenseMode) (level : Bool) : List Input :=
  if edgeMode old then
    if edgeMode new then [] else [.recond (contactPoint i) (sensed new level)]
  else if edgeMode new then [.recond (contactPoint i) false]
  else [.cond (contactPoint i) (sensed new level)]

/-- The sense mode word taken (R173, R174). -/
def takeSenses (w : Word) (s : State) : Eff :=
  let new := judgeSenses s.cfg.senses w
  ({ s with cfg := { s.cfg with senses := new } },
    (List.finRange 8).flatMap fun i => senseActs i s.cfg.senses[i] new[i] s.contacts[i])

/-! ## Passes (R177, R178) -/

/-- The lowest-numbered enabled channel at or above `k` (R177). -/
def enabledFrom (s : State) (k : Nat) : Option ChannelId :=
  (List.finRange 8).find? fun j => decide (k ≤ j.val) && s.cfg.channels[j].enable

/-- A pass starts with the lowest-numbered enabled channel, or ends at once with none (R177). -/
def startPass (s : State) : State :=
  match enabledFrom s 0 with
  | some j => { s with scan := { s.scan with running := true, converting := some j, periods := 0 } }
  | none => { s with scan := { s.scan with running := false, converting := none, periods := 0 } }

/-- A pass ends; a pending pass starts at the same event (R178). -/
def endPass (s : State) : State :=
  if s.scan.pendingPass then startPass { s with scan := { s.scan with pendingPass := false } }
  else { s with scan := { s.scan with running := false, converting := none, periods := 0 } }

/-- The converter goes on to the next enabled channel above j, or ends the pass (R177). -/
def nextChannel (j : ChannelId) (s : State) : State :=
  match enabledFrom s (j.val + 1) with
  | some k => { s with scan := { s.scan with converting := some k, periods := 0 } }
  | none => endPass s

/-- SCAN_NOW taken (R178). -/
def takeScanNow (s : State) : State :=
  if s.scan.running then { s with scan := { s.scan with pendingPass := true } } else startPass s

/-- The scan interval's expiry (R178). -/
def takeInterval (s : State) : State :=
  let s1 : State := { s with scan := { s.scan with timer := some s.cfg.scanInterval } }
  if s.scan.running then { s1 with scan := { s1.scan with skipped := satAdd 65535 s1.scan.skipped 1 } }
  else startPass s1

/-! ## Conversions (R176, R180) -/

/-- The result of a conversion: floor(Vin × 1024 / Vref + 0.5), within 0..1023 (R176). -/
def convert (vin : Int) (vref : Nat) : Nat :=
  if (vref : Int) ≤ vin then 1023
  else if vin ≤ 0 then 0
  else min 1023 ((2 * vin.toNat * 1024 + vref) / (2 * vref))

/-- The high condition after a result (R180). -/
def highAfter (c : ChannelCfg) (old : Bool) (r : Nat) : Bool :=
  if c.high ≤ r then true else if (r : Int) < (c.high : Int) - (c.hysteresis : Int) then false else old

/-- The low condition after a result (R180). -/
def lowAfter (c : ChannelCfg) (old : Bool) (r : Nat) : Bool :=
  if r ≤ c.low then true else if c.low + c.hysteresis < r then false else old

/-- A channel after a completed conversion (R176, R180). -/
def judgedChannel (c : ChannelCfg) (r : Nat) (x : Channel) : Channel :=
  { result := some r, high := highAfter c x.high r, low := lowAfter c x.low r }

/-- The two conditions of channel j handed to the alarm unit, the high one first (R180). -/
def channelConds (j : ChannelId) (x : Channel) : List Input := [.cond (highPoint j) x.high, .cond (lowPoint j) x.low]

/-- The conversion of channel j completes with a result (R176, R177, R180). -/
def takeResult (j : ChannelId) (r : Nat) (s : State) : Eff :=
  let s1 := s.modChannel j (judgedChannel s.cfg.channels[j] r)
  (nextChannel j s1, channelConds j s1.channels[j])

/-- A channel disabled: its result is kept, its conditions are absent (R175). -/
def disableChannel (x : Channel) : Channel := { x with high := false, low := false }

/-- A write of channel j's configuration taken (R175, R179). -/
def takeChannelConfig (j : ChannelId) (new : ChannelCfg) (s : State) : Eff :=
  let s1 : State := { s with cfg := { s.cfg with channels := s.cfg.channels.set j new } }
  let s2 := if s.scan.converting = some j then nextChannel j s1 else s1
  if s.cfg.channels[j].enable && !new.enable then
    let s3 := s2.modChannel j disableChannel
    (s3, channelConds j s3.channels[j])
  else (s2, [])

end Sys2Proof.Machine
end

