-- ==== Sys2Proof/Machine/Links.lean ====
section
/-! DEFINITION. The link ports' operations (chapter 1): buffering and flow control, loss of alignment and fences, the error
window, the echo exchange and the measured delay. -/

namespace Sys2Proof.Machine

open Sys2Proof

/-! ## Flow control (R10) -/

/-- After a stored frame: at 12 frames with the hold flag clear, the flag is set and HOLD becomes the pending mark, or a
pending GO is withdrawn. -/
def markHold (l : LinkPort) : LinkPort :=
  if l.buffer.length = 12 ∧ l.holdFlag = false then
    { l with holdFlag := true, mark := if l.mark = some .go then none else some .hold }
  else l

/-- After the buffer shrinks: at 8 frames or fewer with the hold flag set, the flag clears and GO becomes the pending mark,
or a pending HOLD is withdrawn. -/
def markGo (l : LinkPort) : LinkPort :=
  if l.buffer.length ≤ 8 ∧ l.holdFlag = true then
    { l with holdFlag := false, mark := if l.mark = some .hold then none else some .go }
  else l

/-- The flow mark state cleared (R10), with the GO that was owed. -/
def clearFlow (l : LinkPort) : LinkPort := { l with holdFlag := false, mark := none, goOwed := false }

/-! ## The input buffer (R8, R9) -/

/-- A well-formed frame's arrival in OPEN: stored at the tail, or discarded as an overflow (R8). -/
def storeFrame (r : Request) (l : LinkPort) : LinkPort :=
  if l.buffer.length < 16 then markHold { l with buffer := l.buffer ++ [r] }
  else { l with windowCount := satAdd 65535 l.windowCount 1 }

/-- A well-formed READ, WRITE or READY_TO_FENCE arrives (R2, R4, R6, R8). -/
def requestArrives (r : Request) (l : LinkPort) : LinkPort :=
  match l.state with
  | .off => l
  | .aligning => { l with goodRun := 0 }
  | .measuring => { l with failRun := 0 }
  | .opened => storeFrame r { l with failRun := 0 }
  | .fenced => l

/-- The head frame taken from the buffer (R9, R10). -/
def popFrame (l : LinkPort) : LinkPort := markGo { l with buffer := l.buffer.tail }

/-- A slot's waiting READ withdrawn from the arbiter; a waiting WRITE stays (R36). -/
def withdrawRead (n : SlotId) (s : State) : State :=
  match s.port.waiting[n] with
  | some (.read _ _ _) => s.setWaiting n none
  | _ => s

/-- A port's buffer and outstanding reads gone (R4, R7, R11, R18). -/
def flushPort (l : LinkPort) : LinkPort := { l with buffer := [], reads := [] }

/-! ## Link states (section 1.2) -/

/-- The outstanding echo cancelled, neither as a miss nor as a sample (R4, R7), or void (R15). -/
def cancelEcho (l : LinkPort) : LinkPort := { l with echo := none, replyTimer := none }

/-- The echo cadence stopped (R4). -/
def stopCadence (l : LinkPort) : LinkPort := { l with cadenceTimer := none, echoDue := false }

/-- Loss of alignment at the port (R4, R5). -/
def misalign (l : LinkPort) : LinkPort :=
  { stopCadence (cancelEcho (clearFlow (flushPort l))) with state := .aligning, goodRun := 0, failRun := 0 }

/-- A fence at the port (R7): a link that is OFF stays OFF. The count of the error window that runs is kept (log entry 46). -/
def fencePort (l : LinkPort) : LinkPort :=
  if l.state = .off then l else { stopCadence (cancelEcho (clearFlow (flushPort l))) with state := .fenced }

/-- Entry to OFF (R3); the echo sequence counter keeps its value and a frame begun is completed. -/
def offPort (l : LinkPort) : LinkPort :=
  { LinkPort.cold with nextId := l.nextId, echoSeq := l.echoSeq, sending := l.sending }

/-- Link enable turns on: OFF goes to ALIGNING and the error window timer starts (R3, R13). -/
def alignPort (l : LinkPort) : LinkPort :=
  if l.state = .off then { l with state := .aligning, goodRun := 0, windowTimer := some 1000 } else l

/-- Link enable turns on for slot n (R3). -/
def takeLinkOn (n : SlotId) (s : State) : Eff := (s.modLink n alignPort, [])

/-- Link enable turns off for slot n: the link enters OFF and its degraded condition is absent (R3, R14). -/
def takeLinkOff (n : SlotId) (s : State) : Eff :=
  ((withdrawRead n s).modLink n offPort, [.cond (linkPoint n) false])

/-- Slot n's link is fenced (R7). -/
def fenceLink (n : SlotId) (s : State) : State := (withdrawRead n s).modLink n fencePort

/-- The swap sequencer takes a loss of alignment: the realign limit starts, unless it is running (R143). -/
def startRealign (w : Swap) : Swap :=
  if liveState w.state ∧ w.realign = none then { w with realign := some 100 } else w

/-- The link of slot n loses alignment (R5): reported to the swap sequencer when it was OPEN. -/
def loseAlignment (n : SlotId) (s : State) : State :=
  let s1 := (withdrawRead n s).modLink n misalign
  if s.links[n].state = .opened then s1.modSwap n startRealign else s1

/-- Entry to MEASURING: an ECHO is due at once and the 100 ms cadence starts (R6, R15). -/
def enterMeasuring (l : LinkPort) : LinkPort :=
  { l with state := .measuring, missRun := 0, echoDue := true, cadenceTimer := some 100 }

/-- A well-formed IDLE frame arrives (R4, R5, R8). -/
def idleArrives (l : LinkPort) : LinkPort :=
  match l.state with
  | .off => l
  | .aligning =>
    if l.goodRun + 1 < 8 then { l with goodRun := l.goodRun + 1 } else enterMeasuring { l with goodRun := 8 }
  | .measuring => { l with failRun := 0 }
  | .opened => { l with failRun := 0 }
  | .fenced => l

/-- A frame that fails its check is counted (R2, R5, R13). -/
def countFailure (l : LinkPort) : LinkPort :=
  { l with failRun := l.failRun + 1, windowCount := satAdd 65535 l.windowCount 1 }

/-- A frame that fails its check arrives at slot n's port (R2, R4, R5, R13). -/
def failedFrame (n : SlotId) (s : State) : State :=
  match s.links[n].state with
  | .off => s
  | .aligning => s.modLink n fun l => { l with goodRun := 0 }
  | .fenced => s
  | _ =>
    let s1 := s.modLink n countFailure
    if 4 ≤ s1.links[n].failRun then loseAlignment n s1 else s1

/-! ## Error windows (R13, R14) -/

/-- The end of an error window, with the threshold in force. A window that ends in FENCED is judged by its count as any other
is, so one that reached the threshold before the fence is not quiet (log entry 46). -/
def endWindow (threshold : Nat) (l : LinkPort) : LinkPort :=
  let l1 :=
    if threshold ≤ l.windowCount then { l with windowSource := true, quietRun := 0 }
    else if l.windowSource then
      { l with quietRun := satAdd 10 l.quietRun 1, windowSource := decide (l.quietRun + 1 < 10) }
    else l
  { l1 with windowCount := 0, windowTimer := some 1000 }

/-! ## The echo exchange (R15 to R17) -/

/-- An ECHO begins at an instant (R15): it takes the counter's value, t1 is recorded, the 5 ms reply timer starts. -/
def beginEcho (t : Stamp) (l : LinkPort) : LinkPort :=
  { l with sending := some (.echo l.echoSeq), echo := some { seq := l.echoSeq, sent := t }, echoSeq := l.echoSeq + 1,
           replyTimer := some 5, echoDue := false }

/-- The round trip r of a reply (R16): the elapsed time less the card's turnaround. -/
def roundTrip (e : Echo) (arrival : Stamp) (turnaround : Nat) : Int := elapsed e.sent arrival - (turnaround : Int)

/-- Whether a round trip is valid (R16). -/
def validTrip (r : Int) : Bool := decide (0 ≤ r ∧ r ≤ 200000)

/-- The measured delay after a valid sample: loaded when absent, otherwise moved by a quarter of the difference (R17). -/
def smoothDelay (old : Option Nat) (d : Nat) : Nat :=
  match old with
  | none => d
  | some k => ((k : Int) + divR ((d : Int) - (k : Int)) 2).toNat

/-- A miss, or an invalid reply, which counts as one (R15): counted in OPEN alone; the third raises the echo source. -/
def missEcho (l : LinkPort) : LinkPort :=
  let l1 := cancelEcho l
  if l.state = .opened then
    { l1 with missRun := satAdd 3 l.missRun 1, echoSource := l.echoSource || decide (3 ≤ satAdd 3 l.missRun 1) }
  else l1

/-- A valid reply in OPEN (R14, R15, R17). -/
def goodEcho (d : Nat) (l : LinkPort) : LinkPort :=
  { cancelEcho l with missRun := 0, echoSource := false, delay := some (smoothDelay l.delay d) }

/-- A valid reply in MEASURING opens the link (R6): a GO is owed and the OPEN cadence starts. -/
def openLink (d : Nat) (l : LinkPort) : LinkPort :=
  { goodEcho d l with state := .opened, goOwed := true, cadenceTimer := some 1000, echoDue := false }

/-- The reply timer expires: the echo is a miss (R15). -/
def expireReply (n : SlotId) (s : State) : Eff :=
  let s1 := s.modLink n missEcho
  (s1, [.cond (linkPoint n) (degraded s1.links[n])])

/-- A cadence point: an ECHO falls due, and the cadence of the link's state goes on (R15). DESIGN CHOICE: one due mark, so that a
cadence point which finds an earlier due ECHO still unsent leaves one ECHO owed, not two (log entry 54). -/
def cadencePoint (l : LinkPort) : LinkPort :=
  { l with echoDue := true, cadenceTimer := some (if l.state = .measuring then 100 else 1000) }

/-- Every outstanding echo void, at a step or a hard set (R15, R109). -/
def voidEchoes (s : State) : State := { s with links := Vector.ofFn fun n => cancelEcho s.links[n] }

/-! ## The transmit side (R12) -/

/-- A GO begins: the one owed on entry to OPEN, or the pending mark (R10, R12). -/
def beginGo (l : LinkPort) : LinkPort :=
  if l.goOwed then { l with goOwed := false, sending := some .go } else { l with mark := none, sending := some .go }

/-- The pending HOLD begins (R10). -/
def beginHold (l : LinkPort) : LinkPort := { l with mark := none, sending := some .hold }

/-- The words of an answered read (R11, R24). -/
def answerWords (e : ReadEntry) : List Word := e.words.filterMap id

/-- The head outstanding read leaves as its DATA frame begins (R11). -/
def beginData (l : LinkPort) : LinkPort :=
  match l.reads with
  | e :: rest => { l with reads := rest, sending := some (.data e.tag e.status (answerWords e)) }
  | [] => l

/-- The head notice leaves as its NOTICE frame begins (R69); a list left empty with its mark set takes its RESYNC (R67). -/
def beginNotice (n : SlotId) (s : State) : State :=
  match s.lists[n].entries with
  | e :: rest =>
    (s.modList n fun l => resyncList { l with entries := rest }).modLink n fun l =>
      { l with sending := some (.notice e) }
  | [] => s

/-- WARM_RESET at one port (R18): buffer and reads gone, a held card released. -/
def warmPort (l : LinkPort) : LinkPort := markGo (flushPort l)

end Sys2Proof.Machine
end

