-- ==== Sys2Proof/Machine/Queues.lean ====
section
/-! DEFINITION. The queue tracker (chapter 3): the OPEN check and the queue states, the queue initializer's choice, and the
judging of index words. -/

namespace Sys2Proof.Machine

open Sys2Proof

/-- A queue's waiting zeroing transaction withdrawn (R45). -/
def withdrawZeroing (q : QueueId) (s : State) : State :=
  if s.port.zeroing = some q then { s with port := { s.port with zeroing := none } } else s

/-- Stage 1 of the OPEN check (R41). -/
def badDescriptor (s : State) (c : QueueCfg) : Bool :=
  decide (12 ≤ c.producer ∨ 12 ≤ c.consumer ∨ cellsOf c < c.high ∨ c.high ≤ c.low ∨
    MemSize.bytes s.memSize < c.base + ringBytes c)

/-- Stage 2 of the OPEN check (R41). -/
def ringOverlaps (s : State) (q : QueueId) (c : QueueCfg) : Bool :=
  overRegion s c.base (ringBytes c) || overGroups s none c.base (ringBytes c) ||
    overRings s (some q) c.base (ringBytes c) || overLog s c.base (ringBytes c)

/-- A queue that goes to OPENING: its zeroing is still to be offered (R44, R45). -/
def startOpening (q : Queue) : Queue := { q with state := .opening, offered := false }

/-- A queue whose OPEN check passed (R41). -/
def openedQueue (q : Queue) : Queue :=
  { q with state := .waiting, p := 0, c := 0, overrun := false, overruns := 0, spaceWanted := false,
           result := .noResult, offered := false }

/-- An OPEN command (R41): in any state but CLOSED it has no effect. -/
def takeOpen (q : QueueId) (s : State) : State :=
  let c := s.cfg.queues[q]
  if s.queues[q].state ≠ .closed then s
  else if badDescriptor s c then s.modQueue q fun x => { x with result := .badDescriptor }
  else if ringOverlaps s q c then s.modQueue q fun x => { x with result := .overlap }
  else if bothLive s q then s.modQueue q fun x => startOpening (openedQueue x)
  else s.modQueue q openedQueue

/-- A CLOSE command (R43, R68): on a CLOSED queue it changes nothing. -/
def takeClose (q : QueueId) (s : State) : State :=
  if s.queues[q].state = .closed then s
  else dropQueueNotices q (withdrawZeroing q (s.modQueue q fun x => { x with state := .closed }))

/-- Queue q once slot n is live (R44, R55). -/
def attachedQueue (n : SlotId) (s : State) (q : QueueId) : Queue :=
  if endpoint s.cfg.queues[q] n && bothLive s q &&
      decide (s.queues[q].state = .waiting ∨ s.queues[q].state = .detached) then startOpening s.queues[q]
  else s.queues[q]

/-- Slot n has become live: each queue of its that waits for both endpoints and now has them goes to OPENING (R44, R55). -/
def attachSlot (n : SlotId) (s : State) : State := { s with queues := Vector.ofFn (attachedQueue n s) }

/-- A queue after one of its endpoints stops being live (R53). -/
def detachQueue (x : Queue) : Queue :=
  match x.state with
  | .opened => { x with state := .detached }
  | .opening => { x with state := .waiting }
  | _ => x

/-- The notice of queue q for the slot a descriptor names, with p and c as they stand (R57). -/
def queueNotice (k : QueueNotice) (q : QueueId) (slot : Nat) (s : State) : Eff :=
  if h : slot < 12 then handNotice ⟨slot, h⟩ (.queue k q) (.indices s.queues[q].p s.queues[q].c) s else (s, [])

/-- The other endpoint of queue q, of which slot n is one (R53). -/
def otherEnd (c : QueueCfg) (n : SlotId) : Nat := if c.producer = n.val then c.consumer else c.producer

/-- The queues that slot n's leaving detaches, in ascending queue number (R53). -/
def detaching (n : SlotId) (s : State) : List QueueId :=
  (List.finRange 64).filter fun q => endpoint s.cfg.queues[q] n && decide (s.queues[q].state = .opened)

/-- The QUEUE_DETACHED notice of one queue, for the other endpoint (R53, R57). -/
def detachNotice (n : SlotId) (q : QueueId) (s : State) : Eff :=
  if otherEnd s.cfg.queues[q] n = n.val then (s, [])
  else queueNotice .detached q (otherEnd s.cfg.queues[q] n) s

/-- A waiting zeroing whose queue is no longer OPENING is withdrawn (R45). -/
def withdrawStale (s : State) : State :=
  match s.port.zeroing with
  | some q => if s.queues[q].state = .opening then s else { s with port := { s.port with zeroing := none } }
  | none => s

/-- Queue q after slot n stops being live (R53). -/
def detachedQueue (n : SlotId) (s : State) (q : QueueId) : Queue :=
  if endpoint s.cfg.queues[q] n then detachQueue s.queues[q] else s.queues[q]

/-- Slot n has stopped being live: every queue of which it is an endpoint, and the notices in ascending queue number
(R53). -/
def detachSlot (n : SlotId) (s : State) : Eff :=
  foldEff (detachNotice n) (detaching n s) (withdrawStale { s with queues := Vector.ofFn (detachedQueue n s) })

/-- Every queue CLOSED and a waiting zeroing withdrawn (R56). -/
def closeQueues (s : State) : State :=
  { s with queues := Vector.ofFn fun q => { s.queues[q] with state := .closed },
           port := { s.port with zeroing := none } }

/-! ## Queue initializer (section 3.3) -/

/-- Whether a write transaction carries either index word of a ring. -/
def carriesIndex (base : Nat) (words : List WriteWord) : Bool :=
  words.any fun w => decide (w.addr = base ∨ w.addr = base + 4)

/-- Whether a slot transaction that carries an index word of the ring waits or is in flight (R45). -/
def indexBusy (s : State) (base : Nat) : Bool :=
  ((List.finRange 12).any fun n =>
    match s.port.waiting[n] with
    | some (.write ws _) => carriesIndex base ws
    | _ => false) ||
  (match s.port.flight with
    | some (.slotWrite _ ws) => carriesIndex base ws
    | _ => false)

/-- Whether the initializer has a transaction waiting or in flight. -/
def zeroingBusy (s : State) : Bool :=
  s.port.zeroing.isSome ||
    (match s.port.flight with
      | some (.zeroing _ _) => true
      | _ => false)

/-- The queue the initializer chooses (R45). -/
def nextZeroing (s : State) : Option QueueId :=
  (List.finRange 64).find? fun q =>
    decide (s.queues[q].state = .opening) && !s.queues[q].offered && !indexBusy s s.cfg.queues[q].base

/-- The initializer offers its transaction when it has none of its own (R45). -/
def offerZeroing (s : State) : State :=
  if zeroingBusy s then s
  else
    match nextZeroing s with
    | some q =>
      let s1 := s.modQueue q fun x => { x with offered := true }
      { s1 with port := { s1.port with zeroing := some q } }
    | none => s

/-- A QUEUE_READY notice for each endpoint, once where both are one slot (R46, R57). -/
def readyNotices (q : QueueId) (s : State) : Eff :=
  let c := s.cfg.queues[q]
  let r := queueNotice .ready q c.producer s
  if c.consumer = c.producer then r else r.andThen (queueNotice .ready q c.consumer)

/-- A zeroing transaction of queue q has completed (R46): a queue still in the OPENING that offered it becomes OPEN. -/
def zeroed (q : QueueId) (s : State) : Eff :=
  if s.queues[q].state = .opening ∧ s.queues[q].offered = true then
    readyNotices q
      (s.modQueue q fun x =>
        { x with state := .opened, p := 0, c := 0, overrun := false, spaceWanted := false, offered := false })
  else (s, [])

/-! ## Index words (section 3.4) -/

/-- The queue whose index word stands at a physical address, not being CLOSED, and whether it is the producer's (R46,
R47). -/
def indexWord (s : State) (a : Nat) : Option (QueueId × Bool) :=
  (List.finRange 64).findSome? fun q =>
    if s.queues[q].state = .closed then none
    else if a = s.cfg.queues[q].base then some (q, true)
    else if a = s.cfg.queues[q].base + 4 then some (q, false)
    else none

/-- The index a write names: enabled bytes from the write, the others from the tracked index; the low 16 bits (R47). -/
def writtenIndex (tracked : Nat) (data : Word) (be : Mask) : Nat :=
  bits (mergeBytes (BitVec.ofNat 32 tracked) data be) 0 16

/-- The producer's advance that fits (R49). -/
def producerAdvance (q : QueueId) (new : Nat) (s : State) : Eff :=
  let x := s.queues[q]
  let c := s.cfg.queues[q]
  let o := occupancy x
  let o' := index16 new x.c
  let s1 := s.modQueue q fun x => { x with p := new, spaceWanted := x.spaceWanted || decide (c.high ≤ o') }
  if o = 0 ∨ (o < c.high ∧ c.high ≤ o') then queueNotice .posted q c.consumer s1 else (s1, [])

/-- The producer's advance that would overrun (R50). -/
def producerOverrun (q : QueueId) (s : State) : Eff :=
  let s1 := s.modQueue q fun x =>
    { x with overruns := satAdd 65535 x.overruns 1, overrun := true, spaceWanted := true }
  (queueNotice .overrun q s.cfg.queues[q].producer s1).andThen fun s2 => (s2, [.event 53])

/-- The consumer's advance within the occupancy, above 0 (R51). -/
def consumerAdvance (q : QueueId) (new : Nat) (s : State) : Eff :=
  let x := s.queues[q]
  let c := s.cfg.queues[q]
  let tell := x.spaceWanted && decide (index16 x.p new ≤ c.low)
  let s1 := s.modQueue q fun x =>
    { x with c := new, overrun := false, spaceWanted := x.spaceWanted && !tell }
  if tell then queueNotice .space q c.producer s1 else (s1, [])

/-- What the tracker makes of an index word: its act, whether the word passes, and the access fault it
records (R48 to R51). -/
structure IndexVerdict where
  eff : Eff
  passes : Bool
  fault : Option AccessKind

/-- The judging of one index word from a slot (R48 to R51). -/
def judgeIndex (n : SlotId) (q : QueueId) (producer : Bool) (new : Nat) (s : State) : IndexVerdict :=
  let x := s.queues[q]
  let c := s.cfg.queues[q]
  if x.state = .waiting ∨ x.state = .opening then { eff := (s, []), passes := false, fault := some .queueNotOpen }
  else if (if producer then c.producer else c.consumer) ≠ n.val then
    { eff := (s, []), passes := false, fault := some .queueEndpoint }
  else if producer then
    let a := index16 new x.p
    if a = 0 then { eff := (s, []), passes := true, fault := none }
    else if occupancy x + a ≤ cellsOf c then { eff := producerAdvance q new s, passes := true, fault := none }
    else { eff := producerOverrun q s, passes := false, fault := none }
  else
    let a := index16 new x.c
    if a = 0 then { eff := (s, []), passes := true, fault := none }
    else if a ≤ occupancy x then { eff := consumerAdvance q new s, passes := true, fault := none }
    else { eff := (s, []), passes := false, fault := some .underrun }

end Sys2Proof.Machine
end

