-- ==== Sys2Proof/Machine/Staging.lean ====
section
/-! DEFINITION. The staging unit (chapter 5): staged writes, the arm word, due ticks, commit rounds, the purge; and the
warm reset (R194), which the end of a round may carry out. -/

namespace Sys2Proof.Machine

open Sys2Proof

/-! ## Staged writes (R74 to R77) -/

/-- Whether an entry is group g's at an address in a round. -/
def sameEntry (g : GroupId) (a : Nat) (next : Bool) (e : Staged) : Bool :=
  decide (e.group = g) && decide (e.addr = a) && (e.next == next)

/-- A staged word merged into its entry (R75). -/
def mergeStaged (n : SlotId) (data : Word) (be : Mask) (e : Staged) : Staged :=
  { e with data := mergeBytes e.data data be, mask := e.mask ||| be, origin := e.origin ||| (1#12 <<< n.val) }

/-- A new staging entry (R74): the word's data in its enabled bytes and 0 in the others. -/
def newStaged (g : GroupId) (a : Nat) (n : SlotId) (data : Word) (be : Mask) (next : Bool) : Staged :=
  { group := g, addr := a, data := mergeBytes 0#32 data be, mask := be, origin := 1#12 <<< n.val, next := next }

/-- Whether a physical address may stand in an entry of group g: in the range of the valid group, and not its arm word
(R91). -/
def stageable (s : State) (g : GroupId) (a : Nat) : Bool :=
  s.cfg.groups[g].valid && inGroup s.cfg.groups[g] a && decide (a ≠ armAddr s.cfg.groups[g])

/-- A staged word (R74 to R76). None is taken from a slot that is not live (R90, R148), as the writer may be no more once its
request is settled (log entry 52); and none at an address that its group, reconfigured between the taking and the settling, has
left (R91; log entry 61). -/
def takeStaged (n : SlotId) (g : GroupId) (a : Nat) (data : Word) (be : Mask) (s : State) : State :=
  let next := decide (s.groups[g].state = .committing)
  if be = 0#4 ∨ live s n = false ∨ stageable s g a = false then s
  else if s.staged.any (sameEntry g a next) then
    { s with staged := s.staged.map fun e => if sameEntry g a next e then mergeStaged n data be e else e }
  else if s.staged.length < 256 then
    { s with staged := s.staged ++ [newStaged g a n data be next] }.modGroup g fun x =>
      { x with entryCount := x.entryCount + 1 }
  else s.modGroup g fun x => { x with torn := true }

/-! ## The arm word (section 5.3) -/

/-- What a read of the arm word gives (R78, section 13.6). -/
def armWord (x : Group) : Word :=
  pack [(0, groupCode x.state), (2, flag x.torn), (3, flag x.pendingArm.isSome), (4, x.armedFrame),
    (16, x.entryCount)]

/-- ARM f (R80, R82). -/
def takeArm (g : GroupId) (f : Nat) (s : State) : State :=
  s.modGroup g fun x =>
    match x.state with
    | .committing => { x with pendingArm := some f, armedFrame := f }
    | _ => { x with state := .armed, armedFrame := f }

/-- DISARM (R81, R82). -/
def takeDisarm (g : GroupId) (s : State) : State :=
  s.modGroup g fun x =>
    match x.state with
    | .opened => x
    | .armed => { x with state := .opened }
    | .committing => { x with pendingArm := none }

/-- The entries of group g's gathering round removed from the list, the others in their order. -/
def dropGathering (g : GroupId) (s : State) : State :=
  { s with staged := s.staged.filter fun e => !(decide (e.group = g) && !inFlight s e) }

/-- DISCARD (R81, R82). -/
def takeDiscard (g : GroupId) (s : State) : State :=
  (dropGathering g s).modGroup g fun x =>
    match x.state with
    | .committing => { x with entryCount := 0, torn := false, pendingArm := none }
    | _ => { x with entryCount := 0, torn := false, state := .opened }

/-- An arm-word operation: acted on only with all four bytes enabled and a code that names one (R79, section 13.6). -/
def takeArmWord (g : GroupId) (data : Word) (be : Mask) (s : State) : State :=
  if be = Mask.all then
    match bits data 0 2 with
    | 1 => takeArm g (bits data 16 10) s
    | 2 => takeDisarm g s
    | 3 => takeDiscard g s
    | _ => s
  else s

/-- One word of slot n's WRITE handed to the staging unit (R28). -/
def takeStagingWord (n : SlotId) (s : State) : StagingWord → State
  | .staged g a data be => takeStaged n g a data be s
  | .arm g data be => takeArmWord g data be s

/-- The words of slot n's WRITE for the staging unit handed to it, in ascending address order (R28). -/
def handStaging (n : SlotId) (ks : List StagingWord) (s : State) : State := ks.foldl (takeStagingWord n) s

/-- Whether an arm-word write has no effect (R79). -/
def armIgnored (data : Word) (be : Mask) : Bool := decide (be ≠ Mask.all ∨ bits data 0 2 = 0)

/-! ## Ticks (section 5.4, R88) -/

/-- READs that wait and now touch a COMMITTING group's range are held, and those that touch none are released (R32,
R87). -/
def holdTxn (s : State) : Option SlotTxn → Option SlotTxn
  | some (.read id addrs _) => some (.read id addrs (readHeld s addrs))
  | t => t

/-- The holds of every slot's waiting READ judged again (R32). -/
def judgeHolds (s : State) : State :=
  { s with port := { s.port with waiting := Vector.ofFn fun n => holdTxn s s.port.waiting[n] } }

/-- A due group at its tick: torn, it commits nothing and says so (R83); untorn, it enters COMMITTING (R84). -/
def takeDue (g : GroupId) (s : State) : Eff :=
  let x := s.groups[g]
  if x.torn then
    let s1 := (dropGathering g s).modGroup g fun x => { x with state := .opened, torn := false, entryCount := 0 }
    (handCommitDone g .torn x.entryCount s1).andThen fun s2 => (s2, [.event 54])
  else
    ({ s with rounds := s.rounds ++ [g] }.modGroup g fun x =>
        { x with state := .committing, roundSize := x.entryCount, entryCount := 0 }, [])

/-- Whether group g is due at a continuous tick of number f (R83). -/
def isDue (s : State) (f : Nat) (g : GroupId) : Bool :=
  decide (s.groups[g].state = .armed ∧ s.groups[g].armedFrame = f)

/-- A continuous tick at the staging unit: the due groups in ascending order (R83, R84), then the holds (R32). -/
def dueGroups (f : Nat) (s : State) : Eff :=
  let r := foldEff (fun g s => if isDue s f g then takeDue g s else (s, [])) (List.finRange 16) s
  (judgeHolds r.1, r.2)

/-- A discontinuous tick at the staging unit: every ARMED group is disarmed (R88). -/
def disarmGroups (s : State) : Eff :=
  foldEff (fun g s =>
    if s.groups[g].state = .armed then
      handCommitDone g .discontinuity s.groups[g].entryCount (s.modGroup g fun x => { x with state := .opened })
    else (s, [])) (List.finRange 16) s

/-! ## Slots that leave (R90) and warm reset (R92) -/

/-- Whether the purge of slot n removes an entry whole (R90). -/
def purges (s : State) (n : SlotId) (e : Staged) : Bool := e.origin.getLsbD n.val && !inFlight s e

/-- How many entries of group g the purge of slot n removes. -/
def purgeCount (s : State) (n : SlotId) (g : GroupId) : Nat :=
  (s.staged.filter fun e => decide (e.group = g) && purges s n e).length

/-- The purge of slot n from the staging list (R90). -/
def purgeSlot (n : SlotId) (s : State) : State :=
  { s with
    staged := (s.staged.filter fun e => !purges s n e).map fun e => { e with origin := e.origin &&& ~~~(1#12 <<< n.val) },
    groups := Vector.ofFn fun g =>
      let x := s.groups[g]
      let k := purgeCount s n g
      if k = 0 then x else { x with entryCount := x.entryCount - k, torn := true } }

/-- WARM_RESET at the staging unit (R92): the armed frame keeps its value. -/
def warmStaging (s : State) : State :=
  { s with staged := [],
           groups := Vector.ofFn fun g =>
             { s.groups[g] with state := .opened, pendingArm := none, torn := false, entryCount := 0 } }

/-! ## Warm reset (R194) -/

/-- A slot's waiting READ is withdrawn, a waiting WRITE stays (R36). -/
def dropRead : Option SlotTxn → Option SlotTxn
  | some (.read _ _ _) => none
  | t => t

/-- Every link port under a WARM_RESET (R18), with the waiting READs withdrawn (R36). -/
def warmLinks (s : State) : State :=
  { s with links := Vector.ofFn fun n => warmPort s.links[n],
           port := { s.port with waiting := Vector.ofFn fun n => dropRead s.port.waiting[n] } }

/-- WARM_RESET carried out (R194): links, queues, lists, staging, TIME latches and change marks; all else stays. -/
def carryOutWarm (s : State) : State :=
  let s1 := warmStaging (emptyLists (closeQueues (warmLinks s)))
  { s1 with latches := Vector.replicate 12 Latch.cold,
            marks := Vector.replicate 12 { swap := 0#12, points := 0#58 }, warmPending := false }

/-- A WARM_RESET taken: carried out at once unless a group is COMMITTING (R194). -/
def takeWarm (s : State) : State := if anyCommitting s then { s with warmPending := true } else carryOutWarm s

/-- A pending WARM_RESET once no group is COMMITTING (R194). -/
def warmIfDue (s : State) : State := if s.warmPending && !anyCommitting s then carryOutWarm s else s

/-! ## The commit engine (R85, R87) -/

/-- The entries of group g's round in flight, in list order. -/
def roundEntries (g : GroupId) (s : State) : List Staged :=
  s.staged.filter fun e => decide (e.group = g) && !e.next

/-- The following entries at consecutive addresses, at most `k` of them (R85). -/
def takeRun : Nat → Nat → List Staged → List Staged
  | 0, _, _ => []
  | _ + 1, _, [] => []
  | k + 1, a, e :: rest => if e.addr = a then e :: takeRun k (a + 4) rest else []

/-- The next transaction's entries: the oldest of the round and its run, 16 at most (R85). -/
def nextRun : List Staged → List Staged
  | [] => []
  | e :: rest => e :: takeRun 15 (e.addr + 4) rest

/-- A staging entry as a word of a commit transaction (R85). -/
def commitWord (e : Staged) : WriteWord := { addr := e.addr, data := e.data, mask := e.mask, region := false }

/-- An entry after the round of group g has ended: its next-round entries become current (R87). -/
def makeCurrent (g : GroupId) (e : Staged) : Staged := if e.group = g then { e with next := false } else e

/-- The groups as the round of group g ends (R87): its next-round entries current, its pending ARM taken, its result
handed. -/
def closeRound (g : GroupId) (s : State) : Eff :=
  let s1 : State := { s with staged := s.staged.map (makeCurrent g), rounds := s.rounds.tail, serving := false }
  handCommitDone g .ok s.groups[g].roundSize
    (s1.modGroup g fun x =>
      match x.pendingArm with
      | some f => { x with state := .armed, armedFrame := f, pendingArm := none }
      | none => { x with state := .opened })

/-- The round of group g ends (R87); the READs it held are released (R32), and a WARM_RESET that waited for the last round
is carried out (R194). -/
def endRound (g : GroupId) (s : State) : Eff :=
  (closeRound g s).andThen fun s1 => (warmIfDue (judgeHolds s1), [])

/-- The engine offers the round's next transaction, or ends the round when none of its entries remain (R85, R87). -/
def serveRound (g : GroupId) (s : State) : Eff :=
  match nextRun (roundEntries g s) with
  | [] => endRound g s
  | e :: rest =>
    ({ s with serving := true, port := { s.port with commit := some ((e :: rest).map commitWord) } }, [])

/-- A commit transaction's entries leave the staging list (R85). -/
def dropCommitted (g : GroupId) (words : List WriteWord) (s : State) : State :=
  { s with staged := s.staged.filter fun e =>
      !(decide (e.group = g) && !e.next && words.any fun w => decide (w.addr = e.addr)) }

end Sys2Proof.Machine
end

