-- ==== Sys2Proof/Machine/Swaps.lean ====
section
/-! DEFINITION. The swap sequencer (chapter 8): entry to a swap state and what each change hands out, teardown, the
judging of the four slot lines, and the slot commands and policy. -/

namespace Sys2Proof.Machine

open Sys2Proof

/-! ## Entering a state -/

/-- Whether entry to a state clears the power request (R130). -/
def dropsRequest (st : SwapState) (reason : Reason) : Bool :=
  decide (st = .empty ∨ st = .lockedOut ∨
    (st = .off ∧ (reason = .latch ∨ reason = .command ∨ reason = .policy)))

/-- A slot as it enters a swap state (R129, R130, R132, R144): the state timer stops, the outputs follow the state, the
realign limit runs on only while the slot is live. -/
def enteredSwap (st : SwapState) (reason : Reason) (w : Swap) : Swap :=
  { w with state := st, reason := reason, stateTimer := none,
           realign := if liveState st then w.realign else none,
           retry := if st = .active ∨ st = .empty then 0 else w.retry,
           powerRequest := w.powerRequest && !dropsRequest st reason,
           pwrEn := powered st, linkEnable := linkEnabled st, readyLit := readyLit st }

/-- Slot n enters a swap state; its mark is set in every reader's swap word (R146, R188). -/
def enterSwap (n : SlotId) (st : SwapState) (reason : Reason) (s : State) : State :=
  (s.modSwap n (enteredSwap st reason)).modMarks fun m => { m with swap := m.swap ||| (1#12 <<< n.val) }

/-- The state timer of slot n starts (R132). -/
def startTimer (n : SlotId) (ms : Nat) (s : State) : State := s.modSwap n fun w => { w with stateTimer := some ms }

/-- Link enable turned on or off with the swap state (R3, R129). -/
def switchLink (n : SlotId) (before after : SwapState) (s : State) : Eff :=
  if linkEnabled before = linkEnabled after then (s, [])
  else if linkEnabled after then takeLinkOn n s
  else takeLinkOff n s

/-- The teardown's part in the notice, staging and admission units and the queue tracker, of a slot that has stopped being
live (R138). -/
def teardown (n : SlotId) (s : State) : Eff :=
  detachSlot n (clearDraw n (purgeSlot n (s.modList n fun _ => NoticeList.blank)))

/-- A change of slot n's swap state made: the link enabled or disabled with it, and the teardown of a slot that stops being
live by it (R129, R138). -/
def moveSlot (n : SlotId) (st : SwapState) (reason : Reason) (s : State) : Eff :=
  let before := s.swaps[n].state
  let l := switchLink n before st (enterSwap n st reason s)
  if liveState before && !liveState st then
    let t := teardown n l.1
    (t.1, l.2 ++ t.2)
  else l

/-- What a change of swap state hands out once it and its effects are made: the SWAP notice, and the condition of the slot's
alarm point (R144, R146). -/
def reportSwap (n : SlotId) (st : SwapState) (cause : Reason) (s : State) : Eff :=
  (handSwapNotice n st cause s).andThen fun s1 => (s1, [.cond (slotPoint n) (faultCondition st)])

/-- A change of slot n's swap state: made, with the effects of its own that `own` adds, then reported (R146). -/
def changeSwap (n : SlotId) (st : SwapState) (reason cause : Reason) (own : State → State) (s : State) : Eff :=
  let r := moveSlot n st reason s
  Eff.andThen (own r.1, r.2) (reportSwap n st cause)

/-! ## The changes of state (R133 to R145) -/

/-- Slot n goes to OFF, with its draw and mark cleared (R139, R140). -/
def enterOff (n : SlotId) (cause : Reason) (s : State) : Eff := changeSwap n .off cause cause (clearDraw n) s

/-- Slot n goes to SEATED (R133). -/
def enterSeated (n : SlotId) (s : State) : Eff := changeSwap n .seated .noReason .noReason id s

/-- Slot n goes to SEATED; under policy DISABLED it goes on to OFF(POLICY) (R133). -/
def takeSeat (n : SlotId) (s : State) : Eff :=
  (enterSeated n s).andThen fun s1 => if s1.cfg.slots[n].policy = .disabled then enterOff n .policy s1 else (s1, [])

/-- Slot n enters POWERING: its draw is committed, its access-fault record cleared, the ramp timer started (R134, R150). -/
def enterPowering (n : SlotId) (s : State) : Eff :=
  changeSwap n .powering .noReason .noReason
    (fun s1 =>
      let s2 := (startTimer n s1.cfg.rampTimeout s1).modAdm n fun _ => { draw := s1.cfg.slots[n].draw, shed := false }
      s2.modAccess n fun _ => { count := 0, last := none }) s

/-- The admission of slot n: a SEATED slot enters POWERING (R134, R152); a slot in OFF(SHED) is readmitted, by way of SEATED
at the same event (R153). -/
def admitSlot (n : SlotId) (s : State) : Eff :=
  if s.swaps[n].state = .off then (enterSeated n s).andThen (enterPowering n) else enterPowering n s

/-- PGOOD is steady: POWERING goes to LINKING, link enable turns on and the link timer starts (R134). -/
def takeRampEnd (n : SlotId) (s : State) : Eff :=
  changeSwap n .linking .noReason .noReason (fun s1 => startTimer n s1.cfg.linkTimeout s1) s

/-- The realign limit ends where the link is OPEN (R143). -/
def endRealign (isOpen : Bool) (w : Swap) : Swap := { w with realign := if isOpen then none else w.realign }

/-- Slot n enters ACTIVE, from LINKING or back from QUIESCING; a slot that becomes live is reported to the queue tracker
(R135, R137, R143). -/
def takeActivate (n : SlotId) (s : State) : Eff :=
  changeSwap n .active .noReason .noReason
    (fun s1 =>
      let s2 := s1.modSwap n (endRealign (decide (s1.links[n].state = .opened)))
      if live s n then s2 else attachSlot n s2) s

/-- Whether the release of an off-reason is already there at entry to OFF (R141). -/
def releasedAtEntry (s : State) (n : SlotId) (cause : Reason) : Bool :=
  match cause with
  | .latch => s.swaps[n].latchClosed
  | .policy => decide (s.cfg.slots[n].policy ≠ .disabled)
  | _ => false

/-- Slot n goes to OFF, and on to SEATED where the release is already there (R139 to R141). -/
def takeTurnOff (n : SlotId) (cause : Reason) (s : State) : Eff :=
  (enterOff n cause s).andThen fun s1 => if releasedAtEntry s1 n cause then takeSeat n s1 else (s1, [])

/-- The power-down delay of a FENCED slot ends: OFF with the quiesce cause (R139). -/
def takePowerDown (n : SlotId) (s : State) : Eff := takeTurnOff n s.swaps[n].reason s

/-- QUIESCING goes to FENCED: the link is fenced, the slot torn down, the power-down timer starts; with a delay of 0 the
slot goes on to OFF (R138, R139). -/
def takeFence (n : SlotId) (s : State) : Eff :=
  let cause := s.swaps[n].reason
  (changeSwap n .fenced cause cause (fun s1 => startTimer n s1.cfg.powerDownDelay s1) (fenceLink n s)).andThen
    fun s1 => if s1.cfg.powerDownDelay = 0 then takePowerDown n s1 else (s1, [])

/-- ACTIVE goes to QUIESCING; with a drain timeout of 0 it goes on to FENCED (R136, R137). -/
def takeQuiesce (n : SlotId) (cause : Reason) (s : State) : Eff :=
  (changeSwap n .quiescing cause cause (fun s1 => startTimer n s1.cfg.drainTimeout s1) s).andThen
    fun s1 => if s1.cfg.drainTimeout = 0 then takeFence n s1 else (s1, [])

/-- A fault counted, and the backoff started (R142). -/
def backOff (w : Swap) : Swap := { w with retry := satAdd 7 w.retry 1, stateTimer := some 1000 }

/-- Slot n goes to FAULTED (R142): draw and mark cleared, the retry count grown, the backoff timer started. -/
def takeFaulted (n : SlotId) (cause : Reason) (s : State) : Eff :=
  changeSwap n .faulted cause cause (fun s1 => (clearDraw n s1).modSwap n backOff) s

/-- FAULTED goes to LOCKED_OUT, its fault cause kept (R144). -/
def takeLockOut (n : SlotId) (s : State) : Eff :=
  changeSwap n .lockedOut s.swaps[n].reason s.swaps[n].reason id s

/-- PRESENT is lost: the slot goes to EMPTY, by surprise from a powered state (R145). -/
def takeUnseat (n : SlotId) (s : State) : Eff :=
  changeSwap n .empty .noReason (if powered s.swaps[n].state then .surprise else .noReason) (clearDraw n) s

/-- The link port reports OPEN (R6, R135, R143). -/
def takeLinkOpen (n : SlotId) (s : State) : Eff :=
  match s.swaps[n].state with
  | .linking => takeActivate n s
  | .active => (s.modSwap n (endRealign true), [])
  | .quiescing => (s.modSwap n (endRealign true), [])
  | _ => (s, [])

/-! ## The slot lines (R127, R128) -/

/-- A debounced level and its count after one sample, and whether the level changed (R127). -/
def debounce (setting : Nat) (level : Bool) (count : Nat) (b : Bool) : Bool × Nat × Bool :=
  if b = level then (level, 0, false)
  else if setting ≤ count + 1 then (b, 0, true)
  else (level, count + 1, false)

/-- What PRESENT's level does when it changes (R133, R145). -/
def presentActs (n : SlotId) (b : Bool) (s : State) : Eff :=
  if b then (if s.swaps[n].state = .empty then takeSeat n s else (s, []))
  else (if s.swaps[n].state = .empty then (s, []) else takeUnseat n s)

/-- The PRESENT sample judged (R127). -/
def judgePresentLine (n : SlotId) (b : Bool) (s : State) : Eff :=
  let r := debounce s.cfg.presentDebounce s.swaps[n].present s.swaps[n].presentCount b
  let s1 := s.modSwap n fun w => { w with present := r.1, presentCount := r.2.1 }
  if r.2.2 then presentActs n b s1 else (s1, [])

/-- The FAULT sample judged (R128, R142). -/
def judgeFaultLine (n : SlotId) (b : Bool) (s : State) : Eff :=
  if b && powered s.swaps[n].state then takeFaulted n .overcurrent s else (s, [])

/-- The PGOOD counts after one sample (R128). -/
def countPgood (b : Bool) (w : Swap) : Swap :=
  { w with goodCount := if b then satAdd 10 w.goodCount 1 else 0, badCount := if b then 0 else satAdd 10 w.badCount 1 }

/-- What PGOOD's counts do in the slot's state (R128, R134, R142). -/
def pgoodActs (n : SlotId) (s : State) : Eff :=
  if s.swaps[n].state = .powering ∧ s.swaps[n].goodCount = 10 then takeRampEnd n s
  else if linkEnabled s.swaps[n].state ∧ s.swaps[n].badCount = 10 then takeFaulted n .powerLost s
  else (s, [])

/-- The PGOOD sample judged (R128). -/
def judgePgoodLine (n : SlotId) (b : Bool) (s : State) : Eff := pgoodActs n (s.modSwap n (countPgood b))

/-- LATCH becomes open (R136, R140, R141). -/
def latchOpens (n : SlotId) (s : State) : Eff :=
  match s.swaps[n].state with
  | .powering => takeTurnOff n .latch s
  | .linking => takeTurnOff n .latch s
  | .active => takeQuiesce n .latch s
  | .off => (s.modSwap n fun w => { w with reason := if w.reason = .command then .latch else w.reason }, [])
  | _ => (s, [])

/-- LATCH becomes closed (R137, R141). -/
def latchCloses (n : SlotId) (s : State) : Eff :=
  match s.swaps[n].state with
  | .quiescing => if s.swaps[n].reason = .latch ∧ s.adm[n].shed = false then takeActivate n s else (s, [])
  | .off => if s.swaps[n].reason = .latch then takeSeat n s else (s, [])
  | _ => (s, [])

/-- The LATCH sample judged (R127). -/
def judgeLatchLine (n : SlotId) (b : Bool) (s : State) : Eff :=
  let r := debounce s.cfg.latchDebounce s.swaps[n].latchClosed s.swaps[n].latchCount b
  let s1 := s.modSwap n fun w => { w with latchClosed := r.1, latchCount := r.2.1 }
  if r.2.2 then (if b then latchCloses n s1 else latchOpens n s1) else (s1, [])

/-- One tick's samples of a slot, judged in the order PRESENT, FAULT, PGOOD, LATCH, each in the state the one before it
left (R127). -/
def sampleSlot (n : SlotId) (l : Lines) (s : State) : Eff :=
  (((judgePresentLine n l.present (s.modSwap n fun w => { w with sample := l, sampleDue := false })).andThen
    (judgeFaultLine n l.fault)).andThen (judgePgoodLine n l.pgood)).andThen (judgeLatchLine n l.latch)

/-! ## The slot commands and the policy (R130) -/

/-- POWER_ON (R130, R141). -/
def takePowerOn (n : SlotId) (s : State) : Eff :=
  let s1 := s.modSwap n fun w => { w with powerRequest := true }
  if s.swaps[n].state = .off ∧ s.swaps[n].reason = .command then takeSeat n s1 else (s1, [])

/-- A new quiesce cause, unless it is SHED (R136). -/
def recause (cause : Reason) (w : Swap) : Swap := { w with reason := if w.reason = .shed then .shed else cause }

/-- REMOVE (R130, R136, R140, R144). -/
def takeRemove (n : SlotId) (s : State) : Eff :=
  let s1 := s.modSwap n fun w => { w with powerRequest := false }
  match s.swaps[n].state with
  | .seated => takeTurnOff n .command s1
  | .powering => takeTurnOff n .command s1
  | .linking => takeTurnOff n .command s1
  | .active => takeQuiesce n .command s1
  | .quiescing => (s1.modSwap n (recause .command), [])
  | .fenced => (s1.modSwap n (recause .command), [])
  | .faulted => takeTurnOff n .command s1
  | _ => (s1, [])

/-- CLEAR_LOCKOUT (R130, R144). -/
def takeClearLockout (n : SlotId) (s : State) : Eff :=
  if s.swaps[n].state = .lockedOut then takeSeat n (s.modSwap n fun w => { w with retry := 0 }) else (s, [])

/-- A slot's command word: a code that names no command has no effect (R130, section 13.6). -/
def takeSlotCommand (n : SlotId) (w : Word) (s : State) : Eff :=
  match w.toNat with
  | 1 => takePowerOn n s
  | 2 => takeRemove n s
  | 3 => takeClearLockout n s
  | _ => (s, [])

/-- What a policy write does in the slot's state; the copy already holds the new policy (R133, R136, R140, R141). A write whose
code names no policy over a policy already DISABLED is judged by the policy kept, so it acts as a write of DISABLED, by the
model's choice (R130, log entry 59). -/
def policyActs (n : SlotId) (old : Policy) (s : State) : Eff :=
  if s.cfg.slots[n].policy = .disabled then
    match s.swaps[n].state with
    | .seated => takeTurnOff n .policy s
    | .powering => takeTurnOff n .policy s
    | .linking => takeTurnOff n .policy s
    | .active => takeQuiesce n .policy s
    | .quiescing => (s.modSwap n (recause .policy), [])
    | .fenced => (s.modSwap n (recause .policy), [])
    | _ => (s, [])
  else
    if old = .disabled ∧ s.swaps[n].state = .off ∧ s.swaps[n].reason = .policy then takeSeat n s else (s, [])

/-- The backoff timer's expiry: SEATED while retries are left, LOCKED_OUT otherwise (R144). -/
def takeBackoff (n : SlotId) (s : State) : Eff :=
  if s.swaps[n].retry < s.cfg.retryLimit then takeSeat n s else takeLockOut n s

end Sys2Proof.Machine
end

