-- ==== Sys2Proof/Machine/Alarms.lean ====
section
/-! DEFINITION. The alarm unit's points (chapter 10) and the admission unit (chapter 9), which the active shed-trigger points
reach and which acts on slots through the swap sequencer. -/

namespace Sys2Proof.Machine

open Sys2Proof

/-! ## A point changed (R166) -/

/-- Whether a point's state, acked flag or raise count differ (R166). -/
def pointChanged (a b : Point) : Bool := decide (a.state ≠ b.state ∨ a.acked ≠ b.acked ∨ a.count ≠ b.count)

/-- A point changed, with the change's mark in every reader's words and the relays judged again (R166, R188). -/
def setPoint (p : PointId) (f : Point → Point) (s : State) : State :=
  if pointChanged s.points[p] (f s.points[p]) then
    judgeRelays ((s.modPoint p f).modMarks fun m => { m with points := m.points ||| (1#58 <<< p.val) })
  else s.modPoint p f

/-- The record of a change of point p (R166). -/
def draftOf (s : State) (p : PointId) (ch : Change) : LogDraft :=
  { kind := .change ch, point := p, severity := s.cfg.points[p].severity, count := s.points[p].count,
    sec := s.time.sec % 2 ^ 32, ns := s.time.ns, value := logValue s p }

/-- The receivers of an ALARM notice of point p (R63, R166). -/
def alarmReceivers (s : State) (p : PointId) : List SlotId :=
  (List.finRange 12).filter fun n =>
    live s n && s.cfg.slots[n].alarmSub && atOrAbove s.cfg.points[p].severity s.cfg.slots[n].alarmThreshold

/-- The details of an ALARM notice of point p (R166). -/
def alarmDetails (s : State) (p : PointId) (ch : Change) : Details :=
  .alarm ch s.points[p].state s.cfg.points[p].severity s.points[p].acked

/-- The ALARM notices and the log record of a reported change (R166). -/
def reportChange (p : PointId) (ch : Change) (s : State) : Eff :=
  (handAll (alarmReceivers s p) (.alarm p) (fun _ => alarmDetails s p ch) s).andThen (takeRecord (draftOf s p ch))

/-- A point changed, and its reports. -/
def changePoint (p : PointId) (f : Point → Point) (ch : Option Change) (s : State) : Eff :=
  match ch with
  | some c => reportChange p c (setPoint p f s)
  | none => (setPoint p f s, [])

/-! ## The point states (section 10.2) -/

/-- The point goes to RAISED, its raise count grown and its acked flag clear (R161, R163). -/
def raisePoint (p : PointId) (ch : Change) (s : State) : Eff :=
  changePoint p
    (fun q => { q with state := .raised, acked := false, count := satAdd 65535 q.count 1, timer := none }) (some ch) s

/-- The point goes to CLEAR with a CLEAR report (R162). -/
def clearPoint (p : PointId) (s : State) : Eff :=
  changePoint p (fun q => { q with state := .clear, acked := false, timer := none }) (some .clear) s

/-- The point goes to FALLING, or to CLEAR where the clear debounce is 0 (R162). -/
def fallPoint (p : PointId) (s : State) : Eff :=
  if s.cfg.points[p].clearDebounce = 0 then clearPoint p s
  else changePoint p (fun q => { q with state := .falling, timer := some s.cfg.points[p].clearDebounce }) none s

/-- An enabled level point whose condition becomes present (R161, R162). -/
def judgePresent (p : PointId) (s : State) : Eff :=
  match s.points[p].state with
  | .clear =>
    if s.cfg.points[p].raiseDebounce = 0 then raisePoint p .raised s
    else changePoint p (fun q => { q with state := .rising, timer := some s.cfg.points[p].raiseDebounce }) none s
  | .rising => (s, [])
  | .raised => (s, [])
  | .falling => changePoint p (fun q => { q with state := .raised, timer := none }) none s

/-- An enabled level point whose condition becomes absent (R161, R162). -/
def judgeAbsent (p : PointId) (s : State) : Eff :=
  match s.points[p].state with
  | .clear => (s, [])
  | .rising => changePoint p (fun q => { q with state := .clear, timer := none }) none s
  | .raised => if !latching s p || s.points[p].acked then fallPoint p s else (s, [])
  | .falling => (s, [])

/-- The condition record set, and judged if the point is enabled. -/
def setCond (p : PointId) (b : Bool) (s : State) : Eff :=
  let s1 := s.modPoint p fun q => { q with cond := b }
  if s.cfg.points[p].enable then (if b then judgePresent p s1 else judgeAbsent p s1) else (s1, [])

/-- A level source hands its condition; only a change is judged (R158). -/
def takeCond (p : PointId) (b : Bool) (s : State) : Eff := if s.points[p].cond = b then (s, []) else setCond p b s

/-- An event of an enabled point, by the point state; a disabled point ignores it (R163). -/
def takeEvent (p : PointId) (s : State) : Eff :=
  if s.cfg.points[p].enable then
    match s.points[p].state with
    | .clear => raisePoint p .raised s
    | .rising => raisePoint p .raised s
    | .raised => raisePoint p .repeated s
    | .falling => raisePoint p .repeated s
  else (s, [])

/-- A record of this event was dropped while point 57 was not active; by now it may be (R183). -/
def takeLogLoss (s : State) : Eff := if active s.points[(57 : PointId)] then (s, []) else takeEvent 57 s

/-! ## Acknowledgement and disabling (section 10.3) -/

/-- An acknowledged point in RAISED that behaves as latched and whose condition record is absent goes on (R164). -/
def releasePoint (p : PointId) (s : State) : Eff :=
  if s.points[p].state = .raised ∧ latching s p = true ∧ s.points[p].cond = false ∧ s.points[p].acked = true then
    fallPoint p s
  else (s, [])

/-- ACK of one point: an active, unacked, enabled point takes the acked flag and may then go on at the same event (R164). -/
def ackPoint (p : PointId) (s : State) : Eff :=
  if s.cfg.points[p].enable && active s.points[p] && !s.points[p].acked then
    (changePoint p (fun q => { q with acked := true }) (some .ack) s).andThen (releasePoint p)
  else (s, [])

/-- Enable written to no: the point is cleared (R165). -/
def disablePoint (p : PointId) (s : State) : Eff :=
  if active s.points[p] then clearPoint p s
  else if s.points[p].state = .rising then
    changePoint p (fun q => { q with state := .clear, timer := none }) none s
  else (s, [])

/-! ## Budgets and shedding (sections 9.1, 9.4) -/

/-- Slots marked for shedding, one by one, while the budget in force lies below the unmarked total, and the slots marked, in
the order they were (R155). -/
def markSheds : Nat → State → State × List SlotId
  | 0, s => (s, [])
  | k + 1, s =>
    if budgetInForce s < unmarkedTotal s then
      match shedNext s with
      | some n =>
        let r := markSheds k (s.modAdm n fun a => { a with shed := true })
        (r.1, n :: r.2)
      | none => (s, [])
    else (s, [])

/-- A shed mark acts by the slot's swap state (R156). -/
def takeShed (n : SlotId) (s : State) : Eff :=
  match s.swaps[n].state with
  | .powering => takeTurnOff n .shed s
  | .linking => takeTurnOff n .shed s
  | .active => takeQuiesce n .shed s
  | .quiescing => (s.modSwap n fun w => { w with reason := .shed }, [])
  | _ => (s, [])

/-- The budget in force formed again: the marks it calls for are set, twelve at most, and then each acts, in the order they
were set (R155, R156). -/
def formBudget (s : State) : Eff :=
  let r := markSheds 12 s
  foldEff takeShed r.2 r.1

/-- An act of the alarm unit, after which the admission unit is told if the set of active shed-trigger points has become
empty or not empty by it (R149). -/
def tellShed (act : State → Eff) (s : State) : Eff :=
  let r := act s
  if shedTriggered r.1 = shedTriggered s then r
  else r.andThen fun s1 => formBudget { s1 with onBattery := shedTriggered s1 }

/-! ## Inputs taken (R158) -/

/-- An input taken by the alarm unit, as one event of its point (R158). -/
def takeInput (i : Input) : State → Eff :=
  tellShed fun s =>
    match i with
    | .event p => takeEvent p s
    | .cond p b => takeCond p b s
    | .recond p b => setCond p b s
    | .logLoss => takeLogLoss s

end Sys2Proof.Machine
end

