-- ==== Sys2Proof/Machine/Settle.lean ====
section
/-! DEFINITION. How one event runs to its end: the act is made, then the alarm unit takes what the act handed it, lowest
point first (R166), with what that hands on behind it, and the admission unit makes its choice last (R152). -/

namespace Sys2Proof.Machine

open Sys2Proof

/-- The input to take next out of a list that is not empty, and the others in their order: of the lowest point, the first
handed (R158, R166; log entry 17). -/
def nextInput (i : Input) : List Input → Input × List Input
  | [] => (i, [])
  | j :: rest =>
    let r := nextInput j rest
    if r.1.point < i.point then (r.1, i :: r.2) else (i, j :: rest)

/-- What is handed to the alarm unit taken, input by input; with none left, the head that the admission unit can admit
(R152). Up to a bound (log entry 3). -/
def settle : Nat → List Input → State → State
  | 0, _, s => s
  | k + 1, [], s =>
    match admissible s with
    | some n => settle k (admitSlot n s).2 (admitSlot n s).1
    | none => s
  | k + 1, i :: rest, s =>
    let r := takeInput (nextInput i rest).1 s
    settle k ((nextInput i rest).2 ++ r.2) r.1

/-- A record of this event about a slot's point carries the slot's swap state after the event (R166). -/
def stampRecord (s : State) (r : LogRecord) : LogRecord :=
  match r.draft.kind with
  | .change _ => if r.draft.point.val < 12 then { r with draft := { r.draft with value := logValue s r.draft.point } } else r
  | .lost => r

/-- The records accepted since the queue held `k` of them, stamped. -/
def stampRecords (k : Nat) (s : State) : State :=
  { s with log := { s.log with queue := s.log.queue.take k ++ (s.log.queue.drop k).map (stampRecord s) } }

/-- An event: its act made, what it hands the alarm unit taken, the admission unit's choice last (R152, R166). -/
def event (act : State → Eff) (s : State) : State :=
  stampRecords s.log.queue.length (settle Config.messageBound (act s).2 (act s).1)

end Sys2Proof.Machine
end

