-- ==== Sys2Proof/WellFormed.lean ====
section
/-! DEFINITION. Which commands are well formed. Most operands are bounded by their types; what is left is the length of a
READ or a WRITE (R2) and the converter's reference (R176). -/

namespace Sys2Proof

/-- The word count a READ or WRITE may carry (R2). -/
def burstOk (count : Nat) : Bool := decide (1 ≤ count ∧ count ≤ 16)

/-- A command that the part's surroundings can give it: a READ or WRITE frame that passes its check has a burst of 1 to 16
words (R2), and a conversion is made against a reference above ground (R176). -/
def Instr.wellFormed : Instr → Bool
  | .readFrameArrival _ _ _ count => burstOk count
  | .writeFrameArrival _ _ _ _ data => burstOk data.length
  | .conversionComplete _ vref => decide (0 < vref)
  | _ => true

end Sys2Proof
end

