-- ==== Sys2Proof/Machine/LinkCommands.lean ====
section
/-! DEFINITION. The commands of the link ports (chapter 1) and of the notice lists' sending side (chapter 4): arrivals, link
timers, and the transmit side. A command whose condition does not hold leaves the state as it is (log entry 5). -/

namespace Sys2Proof.Machine

open Sys2Proof

/-- A step's outcome. -/
abbrev Out := Host.Outcome State Fault Refusal

/-! ## Arrivals -/

/-- A well-formed ECHO_REPLY that matches the outstanding echo, judged by its round trip (R16); a link that opens is reported
to the swap sequencer (R6). -/
def judgeReply (n : SlotId) (e : Echo) (turnaround : Nat) (s : State) : Eff :=
  let r := roundTrip e (now s) turnaround
  if validTrip r then
    let d := (r / 2).toNat
    if s.links[n].state = .measuring then
      Eff.andThen (s.modLink n (openLink d), [.cond (linkPoint n) s.links[n].windowSource]) (takeLinkOpen n)
    else (s.modLink n (goodEcho d), [.cond (linkPoint n) s.links[n].windowSource])
  else
    let s1 := s.modLink n missEcho
    (s1, [.cond (linkPoint n) (degraded s1.links[n])])

/-- A well-formed ECHO_REPLY arrives (R4, R6, R7, R15). -/
def replyArrives (n : SlotId) (seq : BitVec 16) (turnaround : Nat) (s : State) : Eff :=
  match s.links[n].state with
  | .off => (s, [])
  | .aligning => (s.modLink n fun l => { l with goodRun := 0 }, [])
  | .fenced => (s, [])
  | _ =>
    let s1 := s.modLink n fun l => { l with failRun := 0 }
    match s.links[n].echo with
    | some e => if e.seq = seq then judgeReply n e turnaround s1 else (s1, [])
    | none => (s1, [])

/-- READ_FRAME_ARRIVAL (R2, R8): a word count outside 1..16 fails the check. -/
def execReadFrameArrival (n : SlotId) (tag : Byte) (addr : Word) (count : Nat) (s : State) : Out :=
  .next (if burstOk count then s.modLink n (requestArrives (.read tag addr count)) else failedFrame n s)

/-- WRITE_FRAME_ARRIVAL (R2, R8): a word count outside 1..16 fails the check. -/
def execWriteFrameArrival (n : SlotId) (addr : Word) (first last : Mask) (data : List Word) (s : State) : Out :=
  .next
    (if burstOk data.length then s.modLink n (requestArrives (.write addr first last data)) else failedFrame n s)

/-- READY_TO_FENCE_ARRIVAL (R8). -/
def execReadyToFenceArrival (n : SlotId) (s : State) : Out := .next (s.modLink n (requestArrives .readyToFence))

/-- IDLE_ARRIVAL (R4, R6). -/
def execIdleArrival (n : SlotId) (s : State) : Out := .next (s.modLink n idleArrives)

/-- ECHO_REPLY_ARRIVAL (R15 to R17). -/
def execEchoReplyArrival (n : SlotId) (seq : BitVec 16) (turnaround : Word) (s : State) : Out :=
  .next (event (replyArrives n seq turnaround.toNat) s)

/-- FRAME_CHECK_FAILED (R2, R5). -/
def execFrameCheckFailed (n : SlotId) (s : State) : Out := .next (failedFrame n s)

/-! ## Link timers -/

/-- ECHO_CADENCE_DUE (R15). -/
def execEchoCadenceDue (n : SlotId) (s : State) : Out :=
  .next (if due s.links[n].cadenceTimer then s.modLink n cadencePoint else s)

/-- ECHO_REPLY_TIMER_EXPIRY (R15). -/
def execEchoReplyTimerExpiry (n : SlotId) (s : State) : Out :=
  .next (if due s.links[n].replyTimer then event (expireReply n) s else s)

/-- The window's end handed to the degraded condition's point (R13, R14). -/
def closeWindow (n : SlotId) (s : State) : Eff :=
  let s1 := s.modLink n (endWindow s.cfg.linkThreshold)
  (s1, [.cond (linkPoint n) (degraded s1.links[n])])

/-- ERROR_WINDOW_END (R13, R14). -/
def execErrorWindowEnd (n : SlotId) (s : State) : Out :=
  .next (if due s.links[n].windowTimer then event (closeWindow n) s else s)

/-! ## The transmit side (R12) -/

/-- SEND_GO (R6, R10, R12). -/
def execSendGo (n : SlotId) (s : State) : Out := .next (if choice s n = some .go then s.modLink n beginGo else s)

/-- SEND_HOLD (R10, R12). -/
def execSendHold (n : SlotId) (s : State) : Out := .next (if choice s n = some .hold then s.modLink n beginHold else s)

/-- SEND_ECHO (R15). -/
def execSendEcho (n : SlotId) (s : State) : Out :=
  .next (if choice s n = some .echo then s.modLink n (beginEcho (now s)) else s)

/-- SEND_DATA (R11). -/
def execSendData (n : SlotId) (s : State) : Out := .next (if choice s n = some .data then s.modLink n beginData else s)

/-- SEND_NOTICE (R67, R69). -/
def execSendNotice (n : SlotId) (s : State) : Out := .next (if choice s n = some .notice then beginNotice n s else s)

/-- SEND_IDLE (R12). -/
def execSendIdle (n : SlotId) (s : State) : Out :=
  .next (if choice s n = some .idle then s.modLink n fun l => { l with sending := some .idle } else s)

/-- TRANSMIT_FRAME_END (R12). -/
def execTransmitFrameEnd (n : SlotId) (s : State) : Out := .next (s.modLink n fun l => { l with sending := none })

/-- RESYNC_ADD (R67). -/
def execResyncAdd (n : SlotId) (s : State) : Out := .next (s.modList n resyncList)

end Sys2Proof.Machine
end

