-- ==== Sys2Proof/Machine/Frames.lean ====
section
/-! DEFINITION. The layouts of link frames, notice records and log records (R195, section 13.6), and the check every arriving
frame must pass (R2). -/

namespace Sys2Proof.Machine

open Sys2Proof

/-! ## The check word (R195) -/

/-- One bit through the 16-bit check: polynomial 1021h, most significant bit first, no reflection. -/
def crcBit (r : BitVec 16) (b : Bool) : BitVec 16 :=
  if r.getLsbD 15 != b then (r <<< 1) ^^^ 0x1021#16 else r <<< 1

/-- One byte through the check, most significant bit first. -/
def crcByte (r : BitVec 16) (b : Byte) : BitVec 16 :=
  [7, 6, 5, 4, 3, 2, 1, 0].foldl (fun r k => crcBit r (b.getLsbD k)) r

/-- One word through the check, its bytes in ascending order. -/
def crcWord (r : BitVec 16) (w : Word) : BitVec 16 :=
  [0, 1, 2, 3].foldl (fun r k => crcByte r (BitVec.ofNat 8 (w.toNat >>> (8 * k)))) r

/-- The check over a frame's words, from the initial value FFFFh. -/
def checkOf (ws : List Word) : BitVec 16 := ws.foldl crcWord 0xFFFF#16

/-- A frame's words with its check word after them; the check word's bits 31:16 are 0. -/
def sealFrame (ws : List Word) : List Word := ws ++ [BitVec.ofNat 32 (checkOf ws).toNat]

/-! ## Records -/

/-- Kind codes of a notice record (section 13.6). -/
def noticeKindCode : NoticeId → Nat
  | .queue .ready _ => 1
  | .queue .posted _ => 2
  | .queue .overrun _ => 3
  | .queue .space _ => 4
  | .queue .detached _ => 5
  | .commitDone _ => 6
  | .frame => 7
  | .alarm _ => 8
  | .swap _ => 9
  | .resync => 10

/-- A notice's object as its record carries it; 0 where the kind has none (section 13.6). -/
def noticeObject : NoticeId → Nat
  | .queue _ q => q.val
  | .commitDone g => g.val
  | .frame => 0
  | .alarm p => p.val
  | .swap n => n.val
  | .resync => 0

/-- Words 1 to 3 of a notice record (section 13.6). An absent measured delay is sent as 0 in its field (log entry 49). -/
def detailWords : Details → List Word
  | .indices p c => [pack [(0, p), (16, c)], 0#32, 0#32]
  | .commit r k => [pack [(0, commitCode r), (16, k)], 0#32, 0#32]
  | .frame f sec ns delay loop disc =>
    [pack [(0, sec)], pack [(0, ns)],
      pack [(0, f), (10, loopCode loop), (12, flag disc), (13, flag delay.isSome), (15, delay.getD 0)]]
  | .alarm ch st sev acked =>
    [pack [(0, changeCode ch), (4, pointStateCode st), (8, severityCode sev), (12, flag acked)], 0#32, 0#32]
  | .swap st cause => [pack [(0, swapCode st), (8, reasonCode cause)], 0#32, 0#32]
  | .blank => [0#32, 0#32, 0#32]

/-- A notice record, four words (section 13.6). -/
def noticeWords (e : Entry) : List Word :=
  pack [(0, noticeKindCode e.id), (8, noticeObject e.id), (16, e.count)] :: detailWords e.details

/-- A log record, four words (section 13.6). -/
def recordWords (r : LogRecord) : List Word :=
  [pack [(0, r.seq), (16, logKindCode r.draft.kind), (20, severityCode r.draft.severity), (24, r.draft.point.val)],
    pack [(0, r.draft.count), (16, r.draft.value)], pack [(0, r.draft.sec)], pack [(0, r.draft.ns)]]

/-! ## Frames the part sends -/

/-- The words of a frame the part sends, its check word included (R195, section 13.6). -/
def sentWords : OutFrame → List Word
  | .idle => sealFrame [pack [(0, 0)]]
  | .go => sealFrame [pack [(0, 12)]]
  | .hold => sealFrame [pack [(0, 11)]]
  | .echo seq => sealFrame [pack [(0, 10), (16, seq.toNat)]]
  | .data tag status words => sealFrame (pack [(0, 8), (4, dataStatusCode status), (16, tag.toNat)] :: words)
  | .notice e => sealFrame (pack [(0, 9)] :: noticeWords e)

/-! ## Frames a card sends -/

/-- The words of a READ frame (section 13.6). -/
def readFrame (tag : Byte) (addr : Word) (count : Nat) : List Word :=
  sealFrame [pack [(0, 1), (4, count), (16, tag.toNat)], addr]

/-- The words of a WRITE frame (section 13.6). -/
def writeFrame (addr : Word) (first last : Mask) (data : List Word) : List Word :=
  sealFrame (pack [(0, 2), (4, data.length), (12, first.toNat), (16, last.toNat)] :: addr :: data)

/-- The words of an ECHO_REPLY frame (section 13.6). -/
def replyFrame (seq : BitVec 16) (turnaround : Word) : List Word := sealFrame [pack [(0, 3), (16, seq.toNat)], turnaround]

/-- The words of a READY_TO_FENCE frame (section 13.6). -/
def fenceFrame : List Word := sealFrame [pack [(0, 4)]]

/-- The words of an IDLE frame (section 13.6). -/
def idleFrame : List Word := sealFrame [pack [(0, 0)]]

/-- Whether a frame's last word carries the check of the words before it (R2, R195); its bits 31:16 belong to no field and
are ignored. -/
def checkPasses (body : List Word) (check : Word) : Bool := decide (bits check 0 16 = (checkOf body).toNat)

/-- The event of a frame whose check word matches, by its header and the words after it (R2, section 13.6): a kind that is
none of the five, a count outside 1..16 or a length that does not agree fails the check. -/
def arrivalOfBody (n : SlotId) : List Word → Instr
  | [] => .frameCheckFailed n
  | h :: rest =>
    match bits h 0 4, rest with
    | 0, [] => .idleArrival n
    | 1, [addr] =>
      if burstOk (bits h 4 5) then .readFrameArrival n (BitVec.ofNat 8 (bits h 16 8)) addr (bits h 4 5)
      else .frameCheckFailed n
    | 2, addr :: data =>
      if burstOk (bits h 4 5) && decide (data.length = bits h 4 5) then
        .writeFrameArrival n addr (BitVec.ofNat 4 (bits h 12 4)) (BitVec.ofNat 4 (bits h 16 4)) data
      else .frameCheckFailed n
    | 3, [turnaround] => .echoReplyArrival n (BitVec.ofNat 16 (bits h 16 16)) turnaround
    | 4, [] => .readyToFenceArrival n
    | _, _ => .frameCheckFailed n

/-- The event a frame's words are when they arrive at link port n (R2, R195). -/
def arrivalOf (n : SlotId) (frame : List Word) : Instr :=
  match frame.getLast? with
  | none => .frameCheckFailed n
  | some check => if checkPasses frame.dropLast check then arrivalOfBody n frame.dropLast else .frameCheckFailed n

end Sys2Proof.Machine
end

