-- ==== Sys2Proof/Machine/Memory.lean ====
section
/-! DEFINITION. Shared memory as a list of the bytes that differ from the fill, by strictly rising address: reading and
writing a byte and a word, and the canonical form. -/

namespace Sys2Proof.Machine

open Sys2Proof

/-- The byte at an address; an address not listed reads as the fill. -/
def readByte : Memory → Nat → Byte
  | [], _ => Config.fillByte
  | (k, v) :: rest, a => if k = a then v else readByte rest a

/-- Writes one byte, keeping the canonical form: writing the fill removes the entry. -/
def writeByte : Memory → Nat → Byte → Memory
  | [], a, b => if b = Config.fillByte then [] else [(a, b)]
  | (k, v) :: rest, a, b =>
    if a < k then (if b = Config.fillByte then (k, v) :: rest else (a, b) :: (k, v) :: rest)
    else if a = k then (if b = Config.fillByte then rest else (a, b) :: rest)
    else (k, v) :: writeByte rest a b

/-- Whether every listed address is at or above `lo`, the addresses rise strictly, and no entry equals the fill. -/
def Memory.wfFrom : Nat → Memory → Bool
  | _, [] => true
  | lo, (k, v) :: rest => decide (lo ≤ k) && decide (v ≠ Config.fillByte) && Memory.wfFrom (k + 1) rest

/-- The canonical form of shared memory. -/
def Memory.wf (m : Memory) : Bool := Memory.wfFrom 0 m

/-- Byte k of a word, the least significant first (00_scope.md, Conventions: words are stored little-endian). -/
def wordByte (w : Word) (k : Nat) : Byte := BitVec.ofNat 8 (w.toNat >>> (8 * k))

/-- The word at a word address: the byte at the lowest address holds the least significant bits. -/
def readWord (m : Memory) (a : Nat) : Word :=
  BitVec.ofNat 32 ((readByte m a).toNat + (readByte m (a + 1)).toNat * 2 ^ 8 + (readByte m (a + 2)).toNat * 2 ^ 16 +
    (readByte m (a + 3)).toNat * 2 ^ 24)

/-- Writes byte k of a word if its mask bit is set. -/
def writeLane (m : Memory) (a : Nat) (w : Word) (mask : Mask) (k : Nat) : Memory :=
  if mask.getLsbD k then writeByte m (a + k) (wordByte w k) else m

/-- Writes the bytes of a word that its mask selects (R33). -/
def writeWord (m : Memory) (a : Nat) (w : Word) (mask : Mask) : Memory :=
  writeLane (writeLane (writeLane (writeLane m a w mask 0) a w mask 1) a w mask 2) a w mask 3

/-- Writes the words of a transaction (R33, R35). -/
def writeWords (m : Memory) (words : List WriteWord) : Memory :=
  words.foldl (fun m w => writeWord m w.addr w.data w.mask) m

/-- Reads the words of a transaction (R35). -/
def readWords (m : Memory) (addrs : List Nat) : List Word := addrs.map (readWord m)

end Sys2Proof.Machine
end

