-- ==== Sys2Proof/Machine/Port.lean ====
section
/-! DEFINITION. The memory port (section 2.6): the arbiter's grant and the completions of the transactions it carries, the
log writer's (section 12.2) and cold start-up's (R193) among them. -/

namespace Sys2Proof.Machine

open Sys2Proof

/-! ## Grants (R34) -/

/-- A word of a slot's write as its grant carries it: a region word carries the copy (R191). -/
def grantedWord (s : State) (w : WriteWord) : WriteWord :=
  if w.region then { w with data := image s.cfg (regionIdx s w.addr) } else w

/-- Whether a slot's waiting transaction takes part in the choice: a held READ does not (R32, R34). -/
def offered : Option SlotTxn → Bool
  | some (.read _ _ held) => !held
  | some (.write _ _) => true
  | none => false

/-- The slots in the arbiter's order: from the one after the last granted, upward, wrapping from 11 to 0 (R34). -/
def slotOrder (last : SlotId) : List SlotId := (List.finRange 12).map fun i => last + 1 + i

/-- The slot the arbiter grants (R34). -/
def nextSlot (s : State) : Option SlotId := (slotOrder s.port.last).find? fun n => offered s.port.waiting[n]

/-- A slot's transaction as it begins. -/
def slotFlight (s : State) (n : SlotId) : Option Flight :=
  match s.port.waiting[n] with
  | some (.read id addrs _) => some (.slotRead n id addrs)
  | some (.write ws _) => some (.slotWrite n (ws.map (grantedWord s)))
  | none => none

/-- The words of consecutive addresses from `a`, every byte enabled. -/
def wordsAt : Nat → List Word → List WriteWord
  | _, [] => []
  | a, w :: rest => { addr := a, data := w, mask := Mask.all, region := false } :: wordsAt (a + 4) rest

/-- The log writer's transaction for a record (R182, R185). -/
def logWords (s : State) (r : LogRecord) : List WriteWord :=
  wordsAt (s.cfg.logBase + r.seq % logCapacity s.cfg.logCode * 16) (recordWords r)

/-- The words for the staging unit that a waiting transaction of the slot keeps (R30). -/
def keptWords : Option SlotTxn → List StagingWord
  | some (.write _ kept) => kept
  | _ => []

/-- A slot's transaction granted (R34): its request is settled, and the words it kept for the staging unit act (R30, R37). -/
def grantSlot (n : SlotId) (s : State) : State :=
  handStaging n (keptWords s.port.waiting[n])
    { s with port := { s.port with flight := slotFlight s n, waiting := s.port.waiting.set n none, last := n } }

/-- The free port grants the first waiting transaction in the arbiter's order (R34); during cold start-up it carries the
control shadow's alone (R193). -/
def takeGrant (s : State) : State :=
  if s.startUp.isSome || s.port.flight.isSome then s
  else
    match s.port.commit, s.port.zeroing, s.log.queue, nextSlot s with
    | some ws, _, _, _ => { s with port := { s.port with flight := some (.commit ws), commit := none } }
    | none, some q, _, _ =>
      { s with port := { s.port with flight := some (.zeroing q s.cfg.queues[q].base), zeroing := none } }
    | none, none, r :: _, _ => { s with port := { s.port with flight := some (.log (logWords s r)) } }
    | none, none, [], some n => grantSlot n s
    | none, none, [], none => s

/-! ## Completions (R35) -/

/-- The port free again. -/
def freePort (s : State) : State := { s with port := { s.port with flight := none } }

/-- An entry's absent words filled in order by the words read (R24, R35). -/
def fillWords : List (Option Word) → List Word → List (Option Word)
  | [], _ => []
  | some w :: rest, vs => some w :: fillWords rest vs
  | none :: rest, [] => none :: fillWords rest []
  | none :: rest, v :: vs => some v :: fillWords rest vs

/-- The entry named takes the words read; if it has gone, the words are dropped (R11, R35). -/
def fillEntry (id : Nat) (vs : List Word) (e : ReadEntry) : ReadEntry :=
  if e.id = id then { e with words := fillWords e.words vs } else e

/-- A slot READ completes (R35, R36). -/
def completeRead (n : SlotId) (id : Nat) (addrs : List Nat) (s : State) : State :=
  (freePort s).modLink n fun l => { l with reads := l.reads.map (fillEntry id (readWords s.mem addrs)) }

/-- A slot WRITE completes: its words are in memory (R35). -/
def completeWrite (words : List WriteWord) (s : State) : State :=
  { freePort s with mem := writeWords s.mem words }

/-- A zeroing transaction completes (R45, R46). -/
def completeZeroing (q : QueueId) (base : Nat) (s : State) : Eff :=
  zeroed q { freePort s with mem := writeWords s.mem (wordsAt base [0#32, 0#32]) }

/-- A commit transaction completes; the engine goes on with its round (R85, R87). -/
def completeCommit (words : List WriteWord) (s : State) : Eff :=
  let s1 : State := { freePort s with mem := writeWords s.mem words }
  match s.rounds with
  | g :: _ => serveRound g (dropCommitted g words s1)
  | [] => (s1, [])

/-- A log transaction completes: its record leaves the queue and the write index grows (R185). -/
def completeLog (words : List WriteWord) (s : State) : State :=
  { freePort s with mem := writeWords s.mem words,
                    log := { s.log with queue := s.log.queue.tail, write := (s.log.write + 1) % 65536 } }

/-! ## Cold start-up (R193) -/

/-- The sixteen words of start-up transaction k, as the copy holds them. That the transactions go upward from the region's first
byte is the model's choice (log entry 60). -/
def startUpWords (s : State) (k : Nat) : List WriteWord :=
  wordsAt (regionBase s + 64 * k)
    ((List.range 16).map fun i => image s.cfg ⟨(16 * k + i) % 4096, Nat.mod_lt _ (by decide)⟩)

/-- A start-up transaction completes; the 256th ends cold start-up (R193). -/
def completeStartUp (k : Nat) (s : State) : State :=
  { s with mem := writeWords s.mem (startUpWords s k), startUp := if k + 1 < 256 then some (k + 1) else none }

end Sys2Proof.Machine
end

