-- ==== Sys2Proof/Machine/Timebase.lean ====
section
/-! DEFINITION. The timebase (chapter 6) and the frame-tick logic (chapter 7): the oscillator period, the references and
their gate, the loop, adjustments of cabinet time, and frame ticks. -/

namespace Sys2Proof.Machine

open Sys2Proof

/-! ## Conditions handed to the alarm unit -/

/-- The conditions of points 51 and 52 (R98). -/
def refConds (s : State) : List Input := [.cond 51 (refLost s 0), .cond 52 (refLost s 1)]

/-- The conditions of points 48 and 49 (R110). -/
def loopConds (s : State) : List Input :=
  [.cond 48 (decide (s.time.loop ≠ .locked)), .cond 49 (decide (s.time.loop = .holdover))]

/-! ## The active reference (R99, R113) -/

/-- P becomes 0 and A becomes F (R107, R108, R113). -/
def dropProp (t : Timebase) : Timebase := { t with prop := 0, applied := t.freq }

/-- The loop when no reference is active any more (R113); with a holdover limit of 0 it passes through HOLDOVER to FREE
(R114). -/
def loseReference (limit : Nat) (t : Timebase) : Timebase :=
  match t.loop with
  | .locked =>
    let t1 := { dropProp t with good := 0, holdCount := 0 }
    if limit = 0 then { t1 with loop := .free, holdTimer := none } else { t1 with loop := .holdover, holdTimer := some 1000 }
  | .acquire => { dropProp t with good := 0, loop := .free }
  | .free => t
  | .holdover => t

/-- What the loss of the active reference hands the alarm unit: where the loop passes through HOLDOVER, point 49's condition
comes and goes and point 50 receives its event (R110, R114). -/
def loseRefInputs (s : State) : List Input :=
  if s.time.loop = .locked then
    if s.cfg.holdoverLimit = 0 then [.cond 48 true, .cond 49 true, .event 50, .cond 49 false]
    else [.cond 48 true, .cond 49 true]
  else []

/-- The active reference chosen again (R99), and what follows from the choice (R113). -/
def chooseActive (s : State) : Eff :=
  let s1 : State := { s with time := { s.time with active := chosenRef s } }
  match s.time.active, chosenRef s with
  | some a, some b => if a = b then (s, []) else (s1.modRef b fun r => { r with capture := none }, [])
  | some _, none => ({ s1 with time := loseReference s.cfg.holdoverLimit s1.time }, loseRefInputs s)
  | none, _ => (s1, [])

/-- A reference disabled by a write (R98). That an edge whose pulse event is still to come is dropped, so that no pulse follows
it even where the reference is enabled again before that, is the model's choice (R100, log entry 58). -/
def disableRef (r : Reference) : Reference :=
  { r with qualified := false, capture := none, misses := 0, missTimer := none, edge := none }

/-- A write of reference r's enable and priority is taken (R98, R99). -/
def takeRefConfig (r : RefId) (enable : Bool) (priority : Nat) (s : State) : Eff :=
  let old := s.cfg.refs[r]
  let s1 : State :=
    { s with cfg := { s.cfg with refs := s.cfg.refs.set r { old with enable := enable, priority := priority } } }
  let s2 := if old.enable && !enable then s1.modRef r disableRef else s1
  let c := chooseActive s2
  (c.1, refConds s2 ++ c.2)

/-! ## Adjustments of cabinet time (R96, R107 to R109) -/

/-- A pending edge moved with the time (R100). -/
def moveEdge (x : Int) (e : Edge) : Edge := { e with capture := e.capture.move x }

/-- A reference's captures moved by x ns (R109). -/
def moveRef (x : Int) (r : Reference) : Reference :=
  { r with capture := r.capture.map (Stamp.move x), edge := r.edge.map (moveEdge x) }

/-- Cabinet time adjusted by x ns: both references' captures and pending edges move with it, and every outstanding echo is
void (R109). -/
def adjustTime (x : Int) (s : State) : State :=
  let t := (now s).move x
  voidEchoes
    { s with time := { s.time with sec := t.sec, ns := t.ns }, refs := Vector.ofFn fun r => moveRef x s.refs[r] }

/-- The phase error of a capture (R104). -/
def phaseError (ns delay : Nat) : Int :=
  let m : Int := (ns : Int) - (delay : Int)
  let m := if m < 0 then m + 1000000000 else m
  if m < 500000000 then m else m - 1000000000

/-- A steer (R106). -/
def steer (e : Int) (c : Cfg) (t : Timebase) : Timebase :=
  let f := limit 2000000 (t.freq - divR (100 * e) c.ki)
  let p := -divR (100 * e) c.kp
  { t with freq := f, prop := p, applied := limit 2000000 (f + p) }

/-- A step (R107). -/
def stepTime (e : Int) (s : State) : State :=
  let s1 := adjustTime (-e) s
  { s1 with time := dropProp s1.time }

/-- The timebase's own part of a hard set (R108). -/
def hardLoop (t : Timebase) : Timebase :=
  let loop := if t.loop = .free ∨ t.loop = .holdover then LoopState.acquire else t.loop
  { dropProp t with good := 0, lastError := 0, loop := loop, load := none,
                    holdTimer := if t.loop = .holdover then none else t.holdTimer }

/-- A hard set at a pulse with this capture (R108): time moves from the capture to (L, D). -/
def hardSet (load : Nat) (cap : Stamp) (delay : Nat) (s : State) : State :=
  let s1 := adjustTime (elapsed cap { sec := load, ns := delay }) s
  { s1 with time := hardLoop s1.time }

/-! ## The loop (R111, R112, R114) -/

/-- LOCKED at or above the lock count, ACQUIRE otherwise (R111). -/
def settleLock (count : Nat) (t : Timebase) : Timebase :=
  { t with loop := if count ≤ t.good then .locked else .acquire }

/-- A pulse acted on in FREE or ACQUIRE (R111). -/
def acquireAct (e : Int) (s : State) : State :=
  if (s.cfg.stepThreshold : Int) < |e| then
    let s1 := stepTime e s
    { s1 with time := settleLock s.cfg.lockCount { s1.time with good := 0 } }
  else
    let t := steer e s.cfg s.time
    let good := if |e| ≤ (s.cfg.lockWindow : Int) then satAdd 15 t.good 1 else 0
    { s with time := settleLock s.cfg.lockCount { t with good := good } }

/-- A pulse acted on in LOCKED (R112). -/
def lockedAct (e : Int) (s : State) : State :=
  if (s.cfg.stepThreshold : Int) < |e| then { s with time := { s.time with loop := .acquire, good := 0 } }
  else if |e| ≤ (s.cfg.lockWindow : Int) then { s with time := steer e s.cfg s.time }
  else { s with time := { steer e s.cfg s.time with loop := .acquire, good := 0 } }

/-- The loop acts on a pulse of reference r with this capture (R104, R111, R112, R114). -/
def loopAct (r : RefId) (cap : Stamp) (s : State) : State :=
  let e := phaseError cap.ns s.cfg.refs[r].delay
  let s1 : State := { s with time := { s.time with lastError := e } }
  match s.time.loop with
  | .locked => lockedAct e s1
  | .holdover => acquireAct e { s1 with time := { s1.time with loop := .acquire, holdTimer := none } }
  | .acquire => acquireAct e s1
  | .free => acquireAct e s1

/-! ## Frame ticks (R117 to R120) -/

/-- The FRAME notice's details for slot n (R120): the boundary is the start of the frame in force. -/
def frameDetails (s : State) (disc : Bool) (n : SlotId) : Details :=
  .frame s.frame (s.time.sec % 2 ^ 32) (s.time.ns / 10000000 * 10000000) s.links[n].delay s.time.loop disc

/-- The receivers of a FRAME notice (R63, R119). -/
def frameReceivers (s : State) : List SlotId :=
  (List.finRange 12).filter fun n => live s n && s.cfg.slots[n].frameSub

/-- The FRAME notices of a tick (R119, R120). -/
def handFrames (disc : Bool) (s : State) : Eff := handAll (frameReceivers s) .frame (frameDetails s disc) s

/-- A tick's part in the staging unit: the due groups of a continuous tick, the ARMED groups of a discontinuous one (R83,
R88). -/
def tickGroups (disc : Bool) (s : State) : Eff := if disc then disarmGroups s else dueGroups s.frame s

/-- A frame tick, if the frame number of cabinet time differs from the number in force (R116 to R119). -/
def takeTick (disc : Bool) (order : TickOrder) (s : State) : Eff :=
  if frameOf s.time.sec s.time.ns = s.frame then (s, [])
  else
    let s1 : State := { s with frame := frameOf s.time.sec s.time.ns }
    match order with
    | .stagingFirst => (tickGroups disc s1).andThen (handFrames disc)
    | .framesFirst => (handFrames disc s1).andThen (tickGroups disc)

/-! ## Pulses (R101, R103) -/

/-- The acceptance gate for a later pulse (R101). -/
def gateOpen (gate misses : Nat) (e : Int) : Bool :=
  (List.range misses).any fun k => decide ((k + 1) * (1000000000 : Int) - gate ≤ e ∧ e ≤ (k + 1) * (1000000000 : Int) + gate)

/-- Whether a pulse of a reference is accepted (R101). -/
def accepts (c : Cfg) (r : Reference) (cap : Stamp) : Bool :=
  match r.capture with
  | none => true
  | some old => gateOpen c.gate c.missLimit (elapsed old cap)

/-- An accepted pulse acts on its record (R101). -/
def acceptPulse (cap : Stamp) (r : Reference) : Reference :=
  { r with qualified := true, misses := 0, missTimer := some 0, capture := some cap }

/-- Whether the loop acts on an accepted pulse of reference r, by the active reference before and after it (R103). -/
def loopActs (r : RefId) (before after : Option RefId) : Bool :=
  decide (after = some r ∧ (before = some r ∨ before = none))

/-- What an accepted pulse does once the active reference is chosen again (R103). A hard set at a pulse whose reference has just
displaced the other leaves that reference's capture absent (R103, in its order; log entry 55). -/
def pulseActs (r : RefId) (cap : Stamp) (before : Option RefId) (s : State) : State :=
  match s.time.load with
  | some l => hardSet l cap s.cfg.refs[r].delay s
  | none => if loopActs r before s.time.active then loopAct r cap s else s

/-- A pulse whose capture is `cap` is judged (R101, R103), with the conditions it changes and the frame tick an adjustment
gives (R118). -/
def judgePulse (r : RefId) (cap : Stamp) (order : TickOrder) (s : State) : Eff :=
  if accepts s.cfg s.refs[r] cap then
    let s1 := s.modRef r (acceptPulse cap)
    let c := chooseActive s1
    let s2 := pulseActs r cap s.time.active c.1
    let t := takeTick true order s2
    (t.1, refConds s1 ++ c.2 ++ loopConds s2 ++ t.2)
  else (s.modRef r fun x => { x with rejects := satAdd 65535 x.rejects 1 }, [])

/-- The pulse event of reference r: an edge after which the line stayed high for 32 ns, which is 4 oscillator periods
(R100). -/
def takePulse (r : RefId) (order : TickOrder) (s : State) : Eff :=
  match s.refs[r].edge with
  | some e =>
    if 4 ≤ e.periods ∧ s.cfg.refs[r].enable = true then
      judgePulse r e.capture order (s.modRef r fun x => { x with edge := none })
    else (s, [])
  | none => (s, [])

/-- A line's edge (R100): a rising edge on an enabled line is captured; a fall within 32 ns takes the edge back. -/
def lineEdge (r : RefId) (rising : Bool) (s : State) : State :=
  let enabled := s.cfg.refs[r].enable
  let t := now s
  s.modRef r fun x =>
    if rising then
      if x.line then x else { x with line := true, edge := if enabled then some { capture := t, periods := 0 } else none }
    else
      { x with line := false, edge := x.edge.filter fun e => decide (4 ≤ e.periods) }

/-! ## Expiries (R102, R114) -/

/-- Whether a miss timer has expired: the advance exceeds 10^9 + G ns (R102). -/
def missDue (c : Cfg) (r : Reference) : Bool :=
  match r.missTimer with
  | some a => decide ((1000000000 + c.gate) * 100000000000 < a)
  | none => false

/-- A miss expiry of reference r (R102). -/
def takeMiss (r : RefId) (s : State) : Eff :=
  if s.cfg.missLimit ≤ s.refs[r].misses + 1 then
    let s1 := s.modRef r fun x => { x with qualified := false, capture := none, misses := 0, missTimer := none }
    let c := chooseActive s1
    (c.1, refConds s1 ++ c.2 ++ loopConds c.1)
  else (s.modRef r fun x => { x with misses := x.misses + 1, missTimer := some 0 }, [])

/-- A holdover second (R114). -/
def takeHoldSecond (s : State) : Eff :=
  let k := s.time.holdCount + 1
  if s.cfg.holdoverLimit ≤ k then
    ({ s with time := { s.time with holdCount := k, loop := .free, holdTimer := none } },
      [.event 50, .cond 48 true, .cond 49 false])
  else ({ s with time := { s.time with holdCount := k, holdTimer := some 1000 } }, [])

/-- SECONDS_LOAD taken (R108). -/
def takeSecondsLoad (s : State) : State :=
  { s with time := { s.time with load := some (s.cfg.secondsHigh * 2 ^ 32 + s.cfg.secondsLow) } }

/-! ## The oscillator period (R93, R95) -/

/-- The increment of a period, in units of residue (R95). -/
def increment (t : Timebase) : Nat := (800000000000 + 8 * t.applied).toNat

/-- Cabinet time after one period (R95). -/
def advance (t : Timebase) : Timebase :=
  let total := t.residue + increment t
  let ns := t.ns + total / 100000000000
  if 1000000000 ≤ ns then
    { t with residue := total % 100000000000, ns := ns - 1000000000, sec := (t.sec + 1) % 2 ^ 48 }
  else { t with residue := total % 100000000000, ns := ns }

/-- A reference through one period: the miss timer counts the advance (R102), a pending edge its periods (R100). -/
def periodRef (inc : Nat) (r : Reference) : Reference :=
  { r with missTimer := r.missTimer.map (· + inc),
           edge := r.edge.map fun e => { e with periods := min 4 (e.periods + 1) } }

/-- The conversion's age in periods, up to the 2,500 of 20 µs (R176). -/
def periodScan (c : Scan) : Scan := if c.converting.isSome then { c with periods := min 2500 (c.periods + 1) } else c

/-- A link port's timers after a divider tick (R13, R15, R94). -/
def tickLink (l : LinkPort) : LinkPort :=
  { l with windowTimer := l.windowTimer.tick, replyTimer := l.replyTimer.tick, cadenceTimer := l.cadenceTimer.tick }

/-- A slot's timers after a divider tick, whose samples are now to be taken (R94, R127). -/
def tickSwap (w : Swap) : Swap :=
  { w with stateTimer := w.stateTimer.tick, realign := w.realign.tick, sampleDue := true }

/-- The scan interval timer after a divider tick; it starts at the first one (R178). -/
def tickScan (interval : Nat) (c : Scan) : Scan :=
  { c with timer := match c.timer with
                    | none => some interval
                    | t => t.tick }

/-- A tick of the millisecond divider: every millisecond timer that was started by a command before this period counts it
(log entry 48), and the samples of the slot lines and of the contacts are to be taken (R93, R94, R127, R173). -/
def millisecond (s : State) : State :=
  { s with links := Vector.ofFn fun n => tickLink s.links[n],
           swaps := Vector.ofFn fun n => tickSwap s.swaps[n],
           points := Vector.ofFn fun p => { s.points[p] with timer := s.points[p].timer.tick },
           time := { s.time with holdTimer := s.time.holdTimer.tick },
           scan := tickScan s.cfg.scanInterval s.scan, contactDue := Vector.replicate 8 true }

/-- The divider after one period: at 125,000 it returns to 0 and takes a tick (R93). -/
def countPeriod (s : State) : State :=
  if s.time.divider + 1 = 125000 then millisecond { s with time := { s.time with divider := 0 } }
  else { s with time := { s.time with divider := s.time.divider + 1 } }

/-- Cabinet time's advance and what counts periods (R95, R100, R102, R176). -/
def advancePeriod (s : State) : State :=
  { s with time := advance s.time, refs := Vector.ofFn fun r => periodRef (increment s.time) s.refs[r],
           scan := periodScan s.scan }

/-- One oscillator period, its divider tick, and the continuous frame tick of a crossed boundary (R93, R95, R117). -/
def takePeriod (order : TickOrder) (s : State) : Eff := takeTick false order (countPeriod (advancePeriod s))

/-- Whether the next period crosses a frame boundary (R117). -/
def crosses (s : State) : Bool :=
  let t := advance s.time
  decide (frameOf t.sec t.ns ≠ s.frame)

/-! ## TIME window (R122 to R124) -/

/-- The reading slot's latch replaced (R123). -/
def takeLatch (n : SlotId) (s : State) : State :=
  s.modLatch n fun _ => { sec := s.time.sec, frame := s.frame, loop := s.time.loop }

/-- Word k of the TIME window for a reading slot (R122, section 13.6). -/
def timeWord (s : State) (n : SlotId) (k : Nat) : Word :=
  match k with
  | 0 => BitVec.ofNat 32 s.time.ns
  | 1 => BitVec.ofNat 32 s.latches[n].sec
  | 2 => BitVec.ofNat 32 (s.latches[n].sec / 2 ^ 32 % 2 ^ 16)
  | 3 => pack [(0, s.latches[n].frame), (16, loopCode s.latches[n].loop)]
  | _ => 0#32

end Sys2Proof.Machine
end

