-- ==== Sys2Proof/Machine/CabinetCommands.lean ====
section
/-! DEFINITION. The commands that no card sends: resets, the timebase and the references (chapters 6 and 7), the slot lines
and the swap timers (chapter 8), admission (chapter 9), the debounces of alarm points (chapter 10) and the environment
monitor (chapter 11). -/

namespace Sys2Proof.Machine

open Sys2Proof

/-! ## Resets -/

/-- COLD_RESET (R193): memory keeps its bytes. -/
def execColdReset (straps : Straps) (s : State) : Out := .next (State.cold straps s.mem s.pending)

/-- COLD_START_UP_WRITE_COMPLETE (R193). -/
def execColdStartUpWriteComplete (s : State) : Out :=
  match s.startUp with
  | some k => .next (event (fun s => (completeStartUp k s, [])) s)
  | none => .next s

/-- WARM_RESET_CARRIED_OUT (R194). -/
def execWarmResetCarriedOut (s : State) : Out := .next (warmIfDue s)

/-! ## Timebase -/

/-- LOCAL_OSCILLATOR_PERIOD (R93, R95), with the frame tick of a boundary it crosses (R117). -/
def execLocalOscillatorPeriod (order : TickOrder) (s : State) : Out := .next (event (takePeriod order) s)

/-- CONTINUOUS_FRAME_TICK (R117): the period whose increment crosses the boundary. -/
def execContinuousFrameTick (order : TickOrder) (s : State) : Out :=
  .next (if crosses s then event (takePeriod order) s else s)

/-- PULSE_EVENT (R101). -/
def execPulseEvent (r : RefId) (order : TickOrder) (s : State) : Out := .next (event (takePulse r order) s)

/-- MISS_TIMER_EXPIRY (R102). -/
def execMissTimerExpiry (r : RefId) (s : State) : Out :=
  .next (if missDue s.cfg s.refs[r] then event (takeMiss r) s else s)

/-- HOLDOVER_TIMER_EXPIRY (R114). -/
def execHoldoverTimerExpiry (s : State) : Out :=
  .next (if due s.time.holdTimer && decide (s.time.loop = .holdover) then event takeHoldSecond s else s)

/-- REFERENCE_LINE_EDGE (R100). -/
def execReferenceLineEdge (r : RefId) (rising : Bool) (s : State) : Out := .next (lineEdge r rising s)

/-! ## Slot lines -/

/-- SLOT_LINE_SAMPLE (R127): this tick's sample, once. -/
def execSlotLineSample (n : SlotId) (lines : Lines) (s : State) : Out :=
  .next (if s.swaps[n].sampleDue then event (sampleSlot n lines) s else s)

/-- Whether this sample changes PRESENT's level (R127). -/
def presentChanges (s : State) (n : SlotId) (b : Bool) : Bool :=
  (debounce s.cfg.presentDebounce s.swaps[n].present s.swaps[n].presentCount b).2.2

/-- Whether this sample changes LATCH's level (R127). -/
def latchChanges (s : State) (n : SlotId) (b : Bool) : Bool :=
  (debounce s.cfg.latchDebounce s.swaps[n].latchClosed s.swaps[n].latchCount b).2.2

/-- PRESENT_DEBOUNCED (R127): the sample that changes PRESENT's level. -/
def execPresentDebounced (n : SlotId) (lines : Lines) (s : State) : Out :=
  .next (if s.swaps[n].sampleDue && presentChanges s n lines.present then event (sampleSlot n lines) s else s)

/-- LATCH_DEBOUNCED (R127): the sample that changes LATCH's level. -/
def execLatchDebounced (n : SlotId) (lines : Lines) (s : State) : Out :=
  .next (if s.swaps[n].sampleDue && latchChanges s n lines.latch then event (sampleSlot n lines) s else s)

/-- PGOOD_STEADY (R128): the sample at which a POWERING slot's PGOOD is steady. -/
def execPgoodSteady (n : SlotId) (lines : Lines) (s : State) : Out :=
  .next
    (if s.swaps[n].sampleDue && decide (s.swaps[n].state = .powering ∧ (countPgood lines.pgood s.swaps[n]).goodCount = 10)
      then event (sampleSlot n lines) s else s)

/-- PGOOD_LOST (R128): the sample at which PGOOD is lost in a state it acts in. -/
def execPgoodLost (n : SlotId) (lines : Lines) (s : State) : Out :=
  .next
    (if s.swaps[n].sampleDue && linkEnabled s.swaps[n].state &&
        decide ((countPgood lines.pgood s.swaps[n]).badCount = 10)
      then event (sampleSlot n lines) s else s)

/-! ## Swap timers -/

/-- Whether slot n's state timer is due in a swap state. -/
def stateTimerDue (s : State) (n : SlotId) (st : SwapState) : Bool :=
  decide (s.swaps[n].state = st) && due s.swaps[n].stateTimer

/-- RAMP_TIMER_EXPIRY (R134, R142). -/
def execRampTimerExpiry (n : SlotId) (s : State) : Out :=
  .next (if stateTimerDue s n .powering then event (takeFaulted n .ramp) s else s)

/-- LINK_TIMER_EXPIRY (R135, R142). -/
def execLinkTimerExpiry (n : SlotId) (s : State) : Out :=
  .next (if stateTimerDue s n .linking then event (takeFaulted n .link) s else s)

/-- DRAIN_TIMER_EXPIRY (R137). -/
def execDrainTimerExpiry (n : SlotId) (s : State) : Out :=
  .next (if stateTimerDue s n .quiescing then event (takeFence n) s else s)

/-- POWER_DOWN_TIMER_EXPIRY (R139). -/
def execPowerDownTimerExpiry (n : SlotId) (s : State) : Out :=
  .next (if stateTimerDue s n .fenced then event (takePowerDown n) s else s)

/-- REALIGN_LIMIT_EXPIRY (R143). -/
def execRealignLimitExpiry (n : SlotId) (s : State) : Out :=
  .next (if live s n && due s.swaps[n].realign then event (takeFaulted n .linkLost) s else s)

/-- BACKOFF_TIMER_EXPIRY (R144). -/
def execBackoffTimerExpiry (n : SlotId) (s : State) : Out :=
  .next (if stateTimerDue s n .faulted then event (takeBackoff n) s else s)

/-! ## Admission (R152, R153) -/

/-- Whether the slot the admission unit would admit now stands in a swap state. -/
def admits (s : State) (st : SwapState) : Bool :=
  match admissible s with
  | some n => decide (s.swaps[n].state = st)
  | none => false

/-- ADMIT (R152): the head is SEATED. -/
def execAdmitHead (s : State) : Out := .next (if admits s .seated then event (fun s => (s, [])) s else s)

/-- READMIT (R153): the head is in OFF(SHED). -/
def execReadmitHead (s : State) : Out := .next (if admits s .off then event (fun s => (s, [])) s else s)

/-! ## Debounces of alarm points -/

/-- RAISE_DEBOUNCE_EXPIRY (R161). -/
def execRaiseDebounceExpiry (p : PointId) (s : State) : Out :=
  .next (if s.points[p].state = .rising ∧ due s.points[p].timer then event (tellShed (raisePoint p .raised)) s else s)

/-- CLEAR_DEBOUNCE_EXPIRY (R162). -/
def execClearDebounceExpiry (p : PointId) (s : State) : Out :=
  .next (if s.points[p].state = .falling ∧ due s.points[p].timer then event (tellShed (clearPoint p)) s else s)

/-! ## Environment -/

/-- CONTACT_SAMPLE (R173): a contact's sample of this tick, once (log entry 53). -/
def execContactSample (sample : ContactSample) (s : State) : Out :=
  .next (if s.contactDue[sample.contact] then event (sampleContact sample.contact sample.level) s else s)

/-- SCAN_INTERVAL_EXPIRY (R178). -/
def execScanIntervalExpiry (s : State) : Out := .next (if due s.scan.timer then takeInterval s else s)

/-- CONVERSION_COMPLETE (R176): 20 µs, which is 2,500 oscillator periods, after its start. -/
def execConversionComplete (vin : Int) (vref : Nat) (s : State) : Out :=
  match s.scan.converting with
  | some j => .next (if 2500 ≤ s.scan.periods then event (takeResult j (convert vin vref)) s else s)
  | none => .next s

end Sys2Proof.Machine
end

