-- ==== Sys2Proof/Machine/StatusWindow.lean ====
section
/-! DEFINITION. The STATUS window (section 12.5): its words by the map of section 13.6, and the clearing of the reader's
change marks. Where the map lists one-bit values against a range of bits, the first named takes the highest bit
(log entry 12); the contact samples of word 0D4h are the exception (log entry 50). -/

namespace Sys2Proof.Machine

open Sys2Proof

/-- Word k, 0 to 3, of slot n's status (section 13.6). An absent measured delay, or last fault, reads 0 in its field (log
entry 49). -/
def statusSlot (s : State) (n : SlotId) (k : Nat) : Word :=
  let w := s.swaps[n]
  match k with
  | 0 =>
    pack [(0, swapCode w.state), (8, reasonCode w.reason), (12, w.retry), (16, flag w.sample.fault),
      (17, flag w.sample.pgood), (18, flag w.sample.latch), (19, flag w.sample.present), (20, flag w.present),
      (21, flag w.latchClosed), (24, linkCode s.links[n].state), (28, flag s.lists[n].overflow), (29, flag s.adm[n].shed)]
  | 1 => pack [(0, s.links[n].delay.getD 0), (31, flag s.links[n].delay.isSome)]
  | 2 =>
    pack [(0, s.access[n].count), (16, (s.access[n].last.map fun f => accessCode f.2).getD 0), (22, s.adm[n].draw)]
  | _ => (s.access[n].last.map Prod.fst).getD 0#32

/-- The code of the active reference (section 13.6, 0C0h). -/
def activeCode : Option RefId → Nat
  | none => 0
  | some r => r.val + 1

/-- Relay k's four bits of the status word at 0DCh (section 13.6). -/
def relayStatus (r : Relay) : Nat := flag r.energised + forceCode r.force * 2 + flag r.alarm * 8

/-- The status words at 0C0h to 0E8h for a reading slot; k counts from 0C0h (section 13.6). With no channel in conversion its
field reads 0 (log entry 49); contact i is bit 16 + i of the word at 0D4h (log entry 50). -/
def statusCabinet (s : State) (n : SlotId) (k : Nat) : Word :=
  match k with
  | 0 =>
    pack [(0, loopCode s.time.loop), (4, activeCode s.time.active), (8, flag s.onBattery), (12, flag s.scan.running),
      (13, flag s.scan.pendingPass), (16, (s.scan.converting.map fun j => j.val).getD 0),
      (19, flag s.scan.converting.isSome)]
  | 1 => signedWord s.time.freq
  | 2 => signedWord s.time.applied
  | 3 => signedWord s.time.lastError
  | 4 => pack [(0, s.log.write), (16, s.log.lost)]
  | 5 => pack ((0, s.scan.skipped) :: (List.finRange 8).map fun i => (16 + i.val, flag s.contacts[i]))
  | 6 => senseImage s.cfg.senses
  | 7 => pack ((List.finRange 4).map fun r => (4 * r.val, relayStatus s.relays[r]))
  | 8 => BitVec.ofNat 32 s.marks[n].swap.toNat
  | 9 => BitVec.ofNat 32 (s.marks[n].points.toNat % 2 ^ 32)
  | 10 => BitVec.ofNat 32 (s.marks[n].points.toNat / 2 ^ 32)
  | _ => 0#32

/-- Word k of reference r's status (section 13.6, 100h). The words of an absent capture read 0 (log entry 49). -/
def statusRef (s : State) (r : RefId) (k : Nat) : Word :=
  let x := s.refs[r]
  let c := s.cfg.refs[r]
  match k with
  | 0 =>
    pack [(0, flag x.qualified), (4, x.misses), (7, flag x.capture.isSome), (8, flag c.enable), (12, c.priority),
      (16, x.rejects)]
  | 1 => BitVec.ofNat 32 ((x.capture.map Stamp.ns).getD 0)
  | 2 => BitVec.ofNat 32 ((x.capture.map Stamp.sec).getD 0)
  | 3 => BitVec.ofNat 32 ((x.capture.map Stamp.sec).getD 0 / 2 ^ 32 % 2 ^ 16)
  | 4 => BitVec.ofNat 32 c.delay
  | _ => 0#32

/-- Word k of queue q's status (section 13.6, 200h). -/
def statusQueue (x : Queue) (k : Nat) : Word :=
  match k with
  | 0 => pack [(0, queueCode x.state), (4, openResultCode x.result), (8, flag x.overrun)]
  | 1 => pack [(0, x.p), (16, x.c)]
  | 2 => pack [(0, occupancy x)]
  | _ => pack [(0, x.overruns)]

/-- Group g's status word (section 13.6, 600h). -/
def statusGroup (x : Group) : Word := pack [(0, groupCode x.state), (16, x.entryCount)]

/-- Channel j's status word (section 13.6, 640h). An absent result reads 0 in its field (log entry 49). -/
def statusChannel (x : Channel) : Word :=
  pack [(0, x.result.getD 0), (15, flag x.result.isSome), (16, flag x.high), (17, flag x.low)]

/-- Point p's status word (section 13.6, 700h). -/
def statusPoint (x : Point) : Word := pack [(0, pointStateCode x.state), (4, flag x.acked), (16, x.count)]

/-- Word k of the STATUS window for a reading slot, at byte offset 4k; 0 where the map gives nothing (R187). -/
def statusWord (s : State) (n : SlotId) (k : Nat) : Word :=
  if h : k < 48 then statusSlot s ⟨k / 4, by omega⟩ (k % 4)
  else if k < 64 then statusCabinet s n (k - 48)
  else if h : k < 80 then statusRef s ⟨(k - 64) / 8, by omega⟩ ((k - 64) % 8)
  else if k < 128 then 0#32
  else if h : k < 384 then statusQueue (s.queues.get ⟨(k - 128) / 4, by omega⟩) ((k - 128) % 4)
  else if h : k < 400 then statusGroup (s.groups.get ⟨k - 384, by omega⟩)
  else if h : k < 408 then statusChannel (s.channels.get ⟨k - 400, by omega⟩)
  else if k < 448 then 0#32
  else if h : k < 506 then statusPoint (s.points.get ⟨k - 448, by omega⟩)
  else 0#32

/-- Whether word k of the STATUS window is a mark word (R188). -/
def markWord (k : Nat) : Bool := decide (k = 56 ∨ k = 57 ∨ k = 58)

/-- A reader's marks after the word k is read: the word's marks cleared (R188). -/
def clearMarks (k : Nat) (m : Marks) : Marks :=
  match k with
  | 56 => { m with swap := 0#12 }
  | 57 => { m with points := BitVec.ofNat 58 (m.points.toNat / 2 ^ 32 * 2 ^ 32) }
  | 58 => { m with points := BitVec.ofNat 58 (m.points.toNat % 2 ^ 32) }
  | _ => m

/-- The mark words among those a READ takes, cleared for the reading slot (R188). -/
def takeMarks (n : SlotId) (ks : List Nat) (s : State) : State :=
  { s with marks := s.marks.set n (ks.foldl (fun m k => clearMarks k m) s.marks[n]) }

end Sys2Proof.Machine
end

