-- ==== Sys2Proof/Machine/Windows.lean ====
section
/-! DEFINITION. The window unit (chapter 2): translation, rights, access faults, and the taking of READs and WRITEs. -/

namespace Sys2Proof.Machine

open Sys2Proof

/-! ## Translation (R19, R21) -/

/-- The bytes a window covers before the cut at the top of the slot-local space (R19). -/
def windowSpan (w : WindowCfg) : Nat :=
  match w.kind with
  | .time => 4096
  | .status => 4096
  | _ => 2 ^ w.size

/-- Whether a valid window covers a slot address (R19). -/
def covers (w : WindowCfg) (a : Nat) : Bool :=
  w.valid && decide (w.localBase ≤ a ∧ a < w.localBase + windowSpan w ∧ a < 2 ^ 32)

/-- Slot n's window k. -/
def windowOf (s : State) (n : SlotId) (k : Fin 8) : WindowCfg := s.cfg.windows[8 * n.val + k.val]

/-- The matching window: the valid window of the slot with the lowest index that covers the first word (R21). -/
def matching (s : State) (n : SlotId) (a : Nat) : Option WindowCfg :=
  ((List.finRange 8).map (windowOf s n)).find? fun w => covers w a

/-- The physical address a PLAIN or STAGED window maps a slot address to (R19). -/
def physical (w : WindowCfg) (a : Nat) : Nat := w.physBase / 2 ^ w.size * 2 ^ w.size + (a - w.localBase)

/-- Where a word goes once it is translated (R21, R28). -/
inductive Dest where
  | unmapped
  | time (k : Nat)
  | status (k : Nat)
  | mem (a : Nat)
  | staged (g : GroupId) (a : Nat)
  | arm (g : GroupId) (a : Nat)
  deriving DecidableEq, Repr

/-- Where a STAGED window's word goes by its group (R28). -/
def stagedDest (s : State) (g : GroupId) (a : Nat) : Dest :=
  if s.cfg.groups[g].valid && inGroup s.cfg.groups[g] a then
    if a = armAddr s.cfg.groups[g] then .arm g a else .staged g a
  else .mem a

/-- A word judged against the matching window alone (R21). -/
def destOf (s : State) (w : WindowCfg) (a : Nat) : Dest :=
  if covers w a then
    match w.kind with
    | .time => .time ((a - w.localBase) / 4)
    | .status => .status ((a - w.localBase) / 4)
    | .plain => if physical w a < MemSize.bytes s.memSize then .mem (physical w a) else .unmapped
    | .staged => if physical w a < MemSize.bytes s.memSize then stagedDest s w.group (physical w a) else .unmapped
  else .unmapped

/-! ## Rights (R23) -/

/-- The outcome of one word (R23). -/
inductive WordOutcome where
  | pass
  | unmapped
  | rights
  | partServedWrite
  deriving DecidableEq, Repr

/-- The outcomes ranked from the least to the most severe (R23). -/
def rank : WordOutcome → Nat
  | .pass => 0
  | .unmapped => 1
  | .rights => 2
  | .partServedWrite => 3

/-- The access-fault kind of an outcome (R25, R26). -/
def outcomeKind : WordOutcome → Option AccessKind
  | .pass => none
  | .unmapped => some .unmapped
  | .rights => some .rights
  | .partServedWrite => some .partServedWrite

/-- A READ's word (R23). -/
def readOutcome (r : Rights) : Dest → WordOutcome
  | .unmapped => .unmapped
  | _ => if r = .write then .rights else .pass

/-- A WRITE's word (R23). -/
def writeOutcome (r : Rights) : Dest → WordOutcome
  | .unmapped => .unmapped
  | .time _ => .partServedWrite
  | .status _ => .partServedWrite
  | _ => if r = .read then .rights else .pass

/-- A word of a request: its slot address, its place, its outcome. -/
structure Placed where
  addr : Nat
  dest : Dest
  outcome : WordOutcome
  deriving DecidableEq, Repr

/-- One word of a request placed (R21, R23). -/
def place (s : State) (judge : Rights → Dest → WordOutcome) (w : Option WindowCfg) (a : Nat) : Placed :=
  match w with
  | none => { addr := a, dest := .unmapped, outcome := .unmapped }
  | some w => { addr := a, dest := destOf s w a, outcome := judge w.rights (destOf s w a) }

/-- The words of a burst placed, in ascending address order (R21, R23). -/
def placeBurst (s : State) (judge : Rights → Dest → WordOutcome) (n : SlotId) (addr : Word) (count : Nat) : List Placed :=
  (List.range count).map fun i => place s judge (matching s n (firstWord addr)) (firstWord addr + 4 * i)

/-- The most severe outcome of a request (R24, R26). -/
def worst (ps : List Placed) : WordOutcome :=
  ps.foldl (fun o p => if rank o < rank p.outcome then p.outcome else o) .pass

/-! ## Access faults (R25, R26) -/

/-- The slot address a last-fault record shows (R25). -/
def faultAddr (a : Nat) : Word := if a < 2 ^ 32 then BitVec.ofNat 32 a else Config.addressPastTop a

/-- An access fault recorded against slot n (R25). -/
def recordFault (n : SlotId) (addr : Word) (k : AccessKind) (s : State) : Eff :=
  (s.modAccess n fun r => { count := satAdd 65535 r.count 1, last := some (addr, k) }, [.event 56])

/-- The window unit's fault for one request, at its first word with the most severe outcome (R26). -/
def recordWorst (n : SlotId) (ps : List Placed) (s : State) : Eff :=
  match outcomeKind (worst ps), ps.find? fun p => decide (p.outcome = worst ps) with
  | some k, some p => recordFault n (faultAddr p.addr) k s
  | _, _ => (s, [])

/-! ## READs (R24, R29, R30, R32) -/

/-- The fill value (R24). -/
def fill : Word := 0xFFFFFFFF#32

/-- The status of the DATA frame (R24). -/
def dataStatus : WordOutcome → DataStatus
  | .pass => .ok
  | .unmapped => .unmapped
  | _ => .rights

/-- A READ's word at its taking: filled, part-served, or still to come from memory (R24, R28, R29). -/
def servedWord (s : State) (n : SlotId) (p : Placed) : Option Word :=
  if p.outcome = .pass then
    match p.dest with
    | .unmapped => some fill
    | .time k => some (timeWord s n k)
    | .status k => some (statusWord s n k)
    | .mem _ => none
    | .staged _ _ => none
    | .arm g _ => some (armWord s.groups[g])
  else some fill

/-- The physical address a READ's word is read at (R27, R28). -/
def memoryAddr (p : Placed) : Option Nat :=
  if p.outcome = .pass then
    match p.dest with
    | .mem a => some a
    | .staged _ a => some a
    | _ => none
  else none

/-- The mark words a READ takes (R188). -/
def takenMarks (ps : List Placed) : List Nat :=
  ps.filterMap fun p =>
    if p.outcome = .pass then
      match p.dest with
      | .status k => if markWord k then some k else none
      | _ => none
    else none

/-- Whether a READ includes TIME word 0 with outcome PASS (R123). -/
def takesLatch (ps : List Placed) : Bool := ps.any fun p => decide (p.dest = .time 0 ∧ p.outcome = .pass)

/-- The entry of a taken READ (R11, R24). -/
def readEntry (s : State) (n : SlotId) (id : Nat) (tag : Byte) (ps : List Placed) : ReadEntry :=
  { id := id, tag := tag, status := dataStatus (worst ps), words := ps.map (servedWord s n) }

/-- The READ at the head of a port's buffer joins its outstanding reads (R9, R11). -/
def acceptRead (e : ReadEntry) (l : LinkPort) : LinkPort :=
  { popFrame l with reads := l.reads ++ [e], nextId := l.nextId + 1 }

/-- The transaction of a READ, held by a commit round or not (R32, R33). -/
def readTxn (s : State) (id : Nat) (ps : List Placed) : Option SlotTxn :=
  match ps.filterMap memoryAddr with
  | [] => none
  | a :: rest => some (.read id (a :: rest) (readHeld s (a :: rest)))

/-- A READ taken (R21 to R32): the part-served words take their values before the request's own fault is recorded. -/
def takeRead (n : SlotId) (tag : Byte) (addr : Word) (count : Nat) (s : State) : Eff :=
  let ps := placeBurst s readOutcome n addr count
  let id := s.links[n].nextId
  let s1 := if takesLatch ps then takeLatch n s else s
  let s2 := takeMarks n (takenMarks ps) (s1.modLink n (acceptRead (readEntry s1 n id tag ps)))
  recordWorst n ps (s2.setWaiting n (readTxn s id ps))

/-- Whether slot n's port can hand its head frame on: OPEN, and nothing of the slot still to be settled (R9, R30). -/
def idlePort (s : State) (n : SlotId) : Bool :=
  decide (s.links[n].state = .opened) && (s.port.waiting[n]).isNone

/-- The READ the window unit can take from slot n (R9). -/
def headRead (s : State) (n : SlotId) : Option (Byte × Word × Nat) :=
  if idlePort s n && decide (s.links[n].reads.length < 8) then
    match s.links[n].buffer with
    | .read tag addr count :: _ => some (tag, addr, count)
    | _ => none
  else none

/-! ## WRITEs (R27, R28) -/

/-- A word of a WRITE that passes, with the end it was routed to when the request was taken (R27, R28). -/
inductive Routed where
  | mem (slotAddr : Word) (addr : Nat) (data : Word) (enables : Mask)
  | staging (w : StagingWord)
  deriving DecidableEq, Repr

/-- The word of a WRITE routed to its end, if it passes (R27, R28). -/
def routeWord (p : Placed) (data : Word) (be : Mask) : Option Routed :=
  if p.outcome = .pass then
    match p.dest with
    | .mem a => some (.mem (BitVec.ofNat 32 p.addr) a data be)
    | .staged g a => some (.staging (.staged g a data be))
    | .arm g _ => some (.staging (.arm g data be))
    | _ => none
  else none

/-- The words of a WRITE that pass, in ascending address order (R27, R28). -/
def routeBurst (ps : List Placed) (first last : Mask) (data : List Word) : List Routed :=
  (List.range data.length).filterMap fun i =>
    match ps[i]?, data[i]? with
    | some p, some d => routeWord p d (enablesOf first last data.length i)
    | _, _ => none

/-- The WRITE the window unit can take from slot n (R9). -/
def headWrite (s : State) (n : SlotId) : Option (Word × Mask × Mask × List Word) :=
  if idlePort s n then
    match s.links[n].buffer with
    | .write addr first last data :: _ => some (addr, first, last, data)
    | _ => none
  else none

/-- A word joins the slot's write transaction (R33). -/
def appendWord (n : SlotId) (w : WriteWord) (s : State) : State :=
  match s.port.waiting[n] with
  | some (.write ws kept) => s.setWaiting n (some (.write (ws ++ [w]) kept))
  | _ => s.setWaiting n (some (.write [w] []))

/-- The words of a WRITE for the staging unit, in ascending address order (R28). -/
def stagingWords (rs : List Routed) : List StagingWord :=
  rs.filterMap fun r =>
    match r with
    | .mem _ _ _ _ => none
    | .staging w => some w

/-- The words of slot n's WRITE for the staging unit, once its words for memory have been shown: they wait for the settling
with the transaction, and where it has none they act at once, since the request is settled as it is taken (R30, R33, R37). -/
def keepOrHand (n : SlotId) (ks : List StagingWord) (s : State) : State :=
  match s.port.waiting[n] with
  | some (.write ws kept) => s.setWaiting n (some (.write ws (kept ++ ks)))
  | _ => handStaging n ks s

end Sys2Proof.Machine
end

