-- ==== Sys2Proof/Machine/Shadow.lean ====
section
/-! DEFINITION. The control shadow (chapter 13): a region word formed, judged and taken (R191), the holds that look at other
blocks' state, the command words (R192), and warm reset (R194). -/

namespace Sys2Proof.Machine

open Sys2Proof

/-! ## The holds (R39, R73, R181, R182, R190) -/

/-- Whether a slot other than n holds the control right (R190). -/
def otherHolder (c : Cfg) (n : SlotId) : Bool := (List.finRange 12).any fun m => decide (m ≠ n) && c.slots[m].right

/-- The control right after a write: held where no slot would hold it (R190). -/
def rightAfter (c : Cfg) (n : SlotId) (new : Bool) : Bool := if new || otherHolder c n then new else c.slots[n].right

/-- Whether group g has an entry in the staging list, of either round (R73). -/
def hasEntries (s : State) (g : GroupId) : Bool := s.staged.any fun e => decide (e.group = g)

/-- Whether a group's new record would be valid over a range it may not have (R73). -/
def groupClash (s : State) (g : GroupId) (c : GroupCfg) : Bool :=
  c.valid && (decide (MemSize.bytes s.memSize < c.base + groupBytes c) || overRegion s c.base (groupBytes c) ||
    overGroups s (some g) c.base (groupBytes c) || overRings s none c.base (groupBytes c) ||
    overLog s c.base (groupBytes c))

/-- Whether a write of a group's word k, giving record `new`, is held (R73). -/
def groupHeld (s : State) (g : GroupId) (k : Nat) (new : GroupCfg) : Bool :=
  (if k = 0 then !new.valid && (hasEntries s g || decide (s.groups[g].state ≠ .opened))
    else hasEntries s g || decide (s.groups[g].state = .committing)) || groupClash s g new

/-- Whether the log would have a ring it may not have (R181). -/
def logClash (s : State) (base code : Nat) : Bool :=
  let bytes := logCapacity code * 16
  decide (0 < bytes) && (decide (MemSize.bytes s.memSize < base + bytes) || overRegion s base bytes ||
    overGroups s none base bytes || overRings s none base bytes)

/-- Whether a write of the log's base or capacity is held (R181). -/
def logHeld (s : State) (base code : Nat) : Bool :=
  decide (s.log.accept ≠ s.cfg.logRead) || logClash s base code

/-! ## Taking a word, record by record (R191) -/

/-- A slot record's word k (R63, R130, R150, R190). The policy acts on the slot in its own write, one that enables its
byte (log entry 8). -/
def takeSlotWord (n : SlotId) (k : Nat) (be : Mask) (w : Word) (s : State) : Eff :=
  let old := s.cfg.slots[n]
  match k with
  | 0 =>
    let new := { judgeSlotWord old w with right := rightAfter s.cfg n (bit w 4) }
    let s1 : State := { s with cfg := { s.cfg with slots := s.cfg.slots.set n new } }
    if be.getLsbD 0 then policyActs n old.policy s1 else (s1, [])
  | 1 => ({ s with cfg := { s.cfg with slots := s.cfg.slots.set n (judgeSubscriptions old w) } }, [])
  | 2 => takeSlotCommand n w s
  | _ => (s, [])

/-- A window record's word k (R20). -/
def takeWindowWord (i : WindowId) (k : Nat) (w : Word) (s : State) : State :=
  { s with cfg := { s.cfg with windows := s.cfg.windows.set i (judgeWindow s.cfg.windows[i] k w) } }

/-- A queue descriptor's word k: held unless the queue is CLOSED, but for the command word (R39, R41, R43). -/
def takeQueueWord (q : QueueId) (k : Nat) (be : Mask) (w : Word) (s : State) : State :=
  if k = 3 then
    match w.toNat with
    | 1 => takeOpen q s
    | 2 => takeClose q s
    | _ => s
  else if s.queues[q].state = .closed then
    { s with cfg := { s.cfg with queues := s.cfg.queues.set q (judgeQueue s.cfg.queues[q] k be w) } }
  else s

/-- A group record's word k (R73). -/
def takeGroupWord (g : GroupId) (k : Nat) (w : Word) (s : State) : State :=
  let new := judgeGroup s.cfg.groups[g] k w
  if groupHeld s g k new then s else { s with cfg := { s.cfg with groups := s.cfg.groups.set g new } }

/-- What a write of a point's record does to the point: enable to no, enable to yes, or latched to no (R165). -/
def pointActs (p : PointId) (old new : PointCfg) (s : State) : Eff :=
  if old.enable && !new.enable then disablePoint p s
  else if !old.enable && new.enable then
    (if s.points[p].cond && !isEvent s p then judgePresent p s else (s, []))
  else if old.latched && !new.latched && new.enable then
    (if s.points[p].cond then (s, []) else judgeAbsent p s)
  else (s, [])

/-- A point record's word k in the copy. -/
def setPointCfg (p : PointId) (k : Nat) (w : Word) (s : State) : State :=
  { s with cfg := { s.cfg with points := s.cfg.points.set p (judgePoint s.cfg.points[p] k w) } }

/-- A point record's word k (R159, R165): the point acts by its new record, the relays are judged again, and the admission
unit is told once, of the change the whole write makes (log entry 38). -/
def takePointWord (p : PointId) (k : Nat) (w : Word) (s : State) : Eff :=
  if k = 0 then
    tellShed (fun s =>
      (pointActs p s.cfg.points[p] (judgePoint s.cfg.points[p] k w) (setPointCfg p k w s)).andThen
        fun s1 => (judgeRelays s1, [])) s
  else (setPointCfg p k w s, [])

/-- The points an ACK command word names: all, one, or none (R164). -/
def ackedPoints (w : Word) : List PointId :=
  if bit w 31 then
    if bit w 8 then List.finRange 58
    else if h : bits w 0 8 < 58 then [⟨bits w 0 8, h⟩]
    else []
  else []

/-- The ACK command word (R164). -/
def takeAckWord (w : Word) (s : State) : Eff := foldEff (fun p => tellShed (ackPoint p)) (ackedPoints w) s

/-- The log's base word (R181). -/
def takeLogBase (w : Word) (s : State) : State :=
  let base := bits w 4 24 * 16
  if logHeld s base s.cfg.logCode then s else { s with cfg := { s.cfg with logBase := base } }

/-- The log's capacity word (R181): a write that takes it to no log sets the lost count to 0. -/
def takeLogCode (w : Word) (s : State) : State :=
  let code := logCodeOf s.cfg.logCode w
  if logHeld s s.cfg.logBase code then s
  else
    let s1 : State := { s with cfg := { s.cfg with logCode := code } }
    if w.toNat = 0 then { s1 with log := { s1.log with lost := 0 } } else s1

/-- The read index word: held where the unread count would grow (R182). -/
def takeLogRead (w : Word) (s : State) : State :=
  if index16 s.log.write s.cfg.logRead < index16 s.log.write (bits w 0 16) then s
  else { s with cfg := { s.cfg with logRead := bits w 0 16 } }

/-- A relay's configuration word (R168, R172). -/
def takeRelayConfig (k : RelayId) (w : Word) (s : State) : State :=
  judgeRelays { s with cfg := { s.cfg with relays := s.cfg.relays.set k (judgeRelay s.cfg.relays[k] w) } }

/-- The global record's word k, at byte offset 4k (section 13.6). -/
def takeGlobalWord (k : Nat) (w : Word) (s : State) : Eff :=
  match k with
  | 0 => (if w = 1#32 then takeWarm s else s, [])
  | 1 => takeAckWord w s
  | 2 => (if w = 1#32 then takeScanNow s else s, [])
  | 5 => (if w = 1#32 then takeSecondsLoad s else s, [])
  | 6 => (forceRelays (bits w 0 4) .on s, [])
  | 7 => (forceRelays (bits w 0 4) .off s, [])
  | 8 => (forceRelays (bits w 0 4) .follow s, [])
  | 9 => formBudget { s with cfg := judgeBudgets s.cfg w }
  | 15 => takeRefConfig 0 (bit w 0) (bits w 4 2) s
  | 17 => takeRefConfig 1 (bit w 0) (bits w 4 2) s
  | 25 => takeSenses w s
  | 34 => (takeLogBase w s, [])
  | 35 => (takeLogCode w s, [])
  | 36 => (takeLogRead w s, [])
  | k =>
    if h : 26 ≤ k ∧ k < 34 then takeChannelConfig ⟨k - 26, by omega⟩ (judgeChannel w) s
    else if h : 37 ≤ k ∧ k < 41 then (takeRelayConfig ⟨k - 37, by omega⟩ w s, [])
    else ({ s with cfg := judgeSetting s.cfg k w }, [])

/-- A formed region word judged and taken, by the record it belongs to (R191). -/
def takeFormed (loc : RegionLoc) (be : Mask) (w : Word) (s : State) : Eff :=
  match loc with
  | .global k => takeGlobalWord k w s
  | .slot n k => takeSlotWord n k be w s
  | .window i k => (takeWindowWord i k w s, [])
  | .queue q k => (takeQueueWord q k be w s, [])
  | .group g k => (takeGroupWord g k w s, [])
  | .point p k => takePointWord p k w s
  | .blank => (s, [])

/-- A region word from a slot that holds the right: formed from the write's enabled bytes and the copy, then taken
(R191). -/
def takeRegion (idx : RegionIdx) (data : Word) (be : Mask) (s : State) : Eff :=
  takeFormed (locate idx) be (mergeBytes (image s.cfg idx) data be) s

/-! ## The words of a WRITE at their ends (R27, R28, R190) -/

/-- Whether a memory-bound word falls in the control region and its slot does not hold the right (R190). -/
def refusedWord (s : State) (n : SlotId) (a : Nat) : Bool := inRegion s a && !s.cfg.slots[n].right

/-- A memory-bound word that falls in the control region (R190, R191); of the words refused in one request the first records
the fault. -/
def showRegion (n : SlotId) (slotAddr : Word) (a : Nat) (data : Word) (be : Mask) (faulted : Bool) (s : State) : Eff :=
  if refusedWord s n a then (if faulted then (s, []) else recordFault n slotAddr .control s)
  else
    (takeRegion (regionIdx s a) data be s).andThen fun s1 =>
      (appendWord n { addr := a, data := 0#32, mask := Mask.all, region := true } s1, [])

/-- A memory-bound word that is a queue's index word (R47, R48). -/
def showIndex (n : SlotId) (slotAddr : Word) (a : Nat) (q : QueueId) (producer : Bool) (data : Word) (be : Mask)
    (s : State) : Eff :=
  let tracked := if producer then s.queues[q].p else s.queues[q].c
  let new := writtenIndex tracked data be
  let v := judgeIndex n q producer new s
  v.eff.andThen fun s1 =>
    let s2 :=
      if v.passes then appendWord n { addr := a, data := BitVec.ofNat 32 new, mask := Mask.all, region := false } s1 else s1
    match v.fault with
    | some k => recordFault n slotAddr k s2
    | none => (s2, [])

/-- One memory-bound word of a WRITE (R27): shown to the control shadow or the queue tracker, or passed as it is. -/
def showWord (n : SlotId) (slotAddr : Word) (a : Nat) (data : Word) (be : Mask) (faulted : Bool) (s : State) : Eff :=
  if inRegion s a then showRegion n slotAddr a data be faulted s
  else
    match indexWord s a with
    | some (q, producer) => showIndex n slotAddr a q producer data be s
    | none => (appendWord n { addr := a, data := data, mask := be, region := false } s, [])

/-- The words of a WRITE for memory shown one by one as it is taken (R27). `faulted` says whether the request has recorded its
CONTROL fault (R190). -/
def showWords (n : SlotId) : List Routed → Bool → State → Eff
  | [], _, s => (s, [])
  | .mem slotAddr a data be :: rest, faulted, s =>
    (showWord n slotAddr a data be faulted s).andThen (showWords n rest (faulted || refusedWord s n a))
  | .staging _ :: rest, faulted, s => showWords n rest faulted s

/-- The words of a WRITE delivered to their ends: those for memory at the taking, those for the staging unit as the request is
settled (R27, R28, R30, R37; log entry 47). -/
def takeWords (n : SlotId) (rs : List Routed) (s : State) : Eff :=
  (showWords n rs false s).andThen fun s1 => (keepOrHand n (stagingWords rs) s1, [])

/-- A WRITE taken whole: the window unit's fault first, then its words (R25, R27, R28). -/
def takeWrite (n : SlotId) (addr : Word) (first last : Mask) (data : List Word) (s : State) : Eff :=
  let ps := placeBurst s writeOutcome n addr data.length
  (recordWorst n ps s).andThen (takeWords n (routeBurst ps first last data))

end Sys2Proof.Machine
end

