-- ==== Sys2Proof/Machine/TrafficCommands.lean ====
section
/-! DEFINITION. The commands of the window unit and the memory port (chapter 2), of the queue initializer (chapter 3), of the
staging unit (chapter 5) and of the log writer's transaction (chapter 12). -/

namespace Sys2Proof.Machine

open Sys2Proof

/-! ## Taking requests -/

/-- The READ at the head of slot n's buffer taken (R9, R21). -/
def takeHeadRead (n : SlotId) (s : State) : State :=
  match headRead s n with
  | some (tag, addr, count) => event (takeRead n tag addr count) s
  | none => s

/-- The WRITE at the head of slot n's buffer taken (R9, R27). -/
def takeHeadWrite (n : SlotId) (s : State) : State :=
  match headWrite s n with
  | some (addr, first, last, data) => event (takeWrite n addr first last data) (s.modLink n popFrame)
  | none => s

/-- The words of the READ at the head, placed. -/
def headPlaced (s : State) (n : SlotId) : List Placed :=
  match headRead s n with
  | some (_, addr, count) => placeBurst s readOutcome n addr count
  | none => []

/-- WINDOW_TAKE_READ (R21 to R32). -/
def execWindowTakeRead (n : SlotId) (s : State) : Out := .next (takeHeadRead n s)

/-- WINDOW_TAKE_WRITE (R27, R28). -/
def execWindowTakeWrite (n : SlotId) (s : State) : Out := .next (takeHeadWrite n s)

/-- TIME_WORD0_READ (R123): the taking of a READ that includes TIME word 0. -/
def execTimeWord0Read (n : SlotId) (s : State) : Out :=
  .next (if takesLatch (headPlaced s n) then takeHeadRead n s else s)

/-- STATUS_MARK_READ (R188): the taking of a READ that includes a change-mark word. -/
def execStatusMarkRead (n : SlotId) (s : State) : Out :=
  .next (if takenMarks (headPlaced s n) ≠ [] then takeHeadRead n s else s)

/-- Whether a READY_TO_FENCE stands at the head, with no request of the slot still to be settled (R9, R30, log entry 21). -/
def headFence (s : State) (n : SlotId) : Bool := idlePort s n && decide (s.links[n].buffer.head? = some .readyToFence)

/-- The frame handed to the swap sequencer: it acts in QUIESCING alone (R137). -/
def handFence (n : SlotId) (s : State) : Eff :=
  if s.swaps[n].state = .quiescing then takeFence n (s.modLink n popFrame) else (s.modLink n popFrame, [])

/-- READY_TO_FENCE_TAKEN (R9, R137). -/
def execReadyToFenceTaken (n : SlotId) (s : State) : Out :=
  .next (if headFence s n then event (handFence n) s else s)

/-- HELD_READ_RELEASE (R32): the hold ends when no COMMITTING group's range holds a word of the READ. -/
def execHeldReadRelease (n : SlotId) (s : State) : Out :=
  .next (s.setWaiting n (holdTxn s s.port.waiting[n]))

/-! ## The memory port -/

/-- MEMORY_GRANT (R34). -/
def execMemoryGrant (s : State) : Out := .next (takeGrant s)

/-- SLOT_READ_COMPLETE (R35). -/
def execSlotReadComplete (s : State) : Out :=
  match s.port.flight with
  | some (.slotRead n id addrs) => .next (completeRead n id addrs s)
  | _ => .next s

/-- SLOT_WRITE_COMPLETE (R35). -/
def execSlotWriteComplete (s : State) : Out :=
  match s.port.flight with
  | some (.slotWrite _ words) => .next (completeWrite words s)
  | _ => .next s

/-- QUEUE_ZEROING_OFFER (R45). -/
def execQueueZeroingOffer (s : State) : Out := .next (offerZeroing s)

/-- ZEROING_COMPLETE (R46). -/
def execZeroingComplete (s : State) : Out :=
  match s.port.flight with
  | some (.zeroing q base) => .next (event (completeZeroing q base) s)
  | _ => .next s

/-- COMMIT_ROUND_START (R84, R85, R87). -/
def execCommitRoundStart (s : State) : Out :=
  match s.serving, s.rounds with
  | false, g :: _ => .next (event (serveRound g) s)
  | _, _ => .next s

/-- COMMIT_TRANSACTION_COMPLETE (R85, R87). -/
def execCommitTransactionComplete (s : State) : Out :=
  match s.port.flight with
  | some (.commit words) => .next (event (completeCommit words) s)
  | _ => .next s

/-- LOG_WRITE_COMPLETE (R185). -/
def execLogWriteComplete (s : State) : Out :=
  match s.port.flight with
  | some (.log words) => .next (completeLog words s)
  | _ => .next s

/-! ## One-word WRITEs -/

/-- Whether a one-word WRITE from an origin can be taken at once and passes to a place: the link is OPEN, nothing of the
slot waits, and the word's outcome is PASS there (R8, R21, R23, R30). -/
def reaches (s : State) (o : Origin) (d : Dest) : Bool :=
  idlePort s o.slot && decide (s.links[o.slot].buffer = []) &&
    decide (placeBurst s writeOutcome o.slot o.addr 1 = [{ addr := firstWord o.addr, dest := d, outcome := .pass }])

/-- A one-word WRITE arrives and is taken (R1, R8, R27). -/
def sendWrite (o : Origin) (data : Word) (be : Mask) (s : State) : State :=
  takeHeadWrite o.slot (s.modLink o.slot (requestArrives (.write o.addr be be [data])))

/-- A write of group g's arm word (R79). -/
def armWrite (o : Origin) (g : GroupId) (data : Word) (be : Mask) (s : State) : State :=
  if reaches s o (.arm g (armAddr s.cfg.groups[g])) then sendWrite o data be s else s

/-- ARM (R79, R80, R82). -/
def execArmGroup (o : Origin) (g : GroupId) (f : BitVec 10) (s : State) : Out :=
  .next (armWrite o g (pack [(0, 1), (16, f.toNat)]) Mask.all s)

/-- DISARM (R79, R81, R82). -/
def execDisarmGroup (o : Origin) (g : GroupId) (s : State) : Out := .next (armWrite o g (pack [(0, 2)]) Mask.all s)

/-- DISCARD (R79, R81, R82). -/
def execDiscardGroup (o : Origin) (g : GroupId) (s : State) : Out := .next (armWrite o g (pack [(0, 3)]) Mask.all s)

/-- ARM_WORD_IGNORED (R79): an arm-word write that carries no operation. -/
def execArmWordIgnored (o : Origin) (g : GroupId) (data : Word) (be : Mask) (s : State) : Out :=
  .next (if armIgnored data be then armWrite o g data be s else s)

end Sys2Proof.Machine
end

