-- ==== Sys2Proof/Machine/RegionCommands.lean ====
section
/-! DEFINITION. The commands that are writes of one control-region word (chapter 13): a one-word WRITE from its origin that
passes to the word. Where a command names one field of a word that has several, the WRITE carries the copy's values in
the others (log entry 6). -/

namespace Sys2Proof.Machine

open Sys2Proof

/-- A write of one region word with these byte enables, taken if the origin reaches it (R27, R191). -/
def regionWrite (o : Origin) (idx : RegionIdx) (data : Word) (be : Mask) (s : State) : State :=
  if reaches s o (.mem (regionBase s + 4 * idx.val)) then sendWrite o data be s else s

/-- A write of a whole region word. -/
def wordWrite (o : Origin) (idx : RegionIdx) (data : Word) (s : State) : State := regionWrite o idx data Mask.all s

/-- A write of one field of a region word: the copy's word with the field replaced. -/
def fieldWrite (o : Origin) (idx : RegionIdx) (lo len v : Nat) (s : State) : State :=
  wordWrite o idx (putBits (image s.cfg idx) lo len v) s

/-- A write of a slot record's field by its own bytes: its value stands at bit `lo` of word 0, the copy's bits stay in the
bytes' other fields. -/
def slotFieldWrite (o : Origin) (n : SlotId) (lo len v : Nat) (be : Mask) (s : State) : State :=
  regionWrite o (slotIdx n 0) (putBits (image s.cfg (slotIdx n 0)) lo len v) be s

/-! ## Queues, groups, windows -/

/-- OPEN (R41). -/
def execOpenQueue (o : Origin) (q : QueueId) (s : State) : Out := .next (wordWrite o (queueIdx q 3) 1#32 s)

/-- CLOSE (R43). -/
def execCloseQueue (o : Origin) (q : QueueId) (s : State) : Out := .next (wordWrite o (queueIdx q 3) 2#32 s)

/-- QUEUE_DESCRIPTOR_WRITE (R39). A watermark is written by its own two bytes. -/
def execQueueDescriptorWrite (o : Origin) (q : QueueId) (field : QueueField) (s : State) : Out :=
  .next
    (match field with
      | .base v => wordWrite o (queueIdx q 0) v s
      | .cellSize v => fieldWrite o (queueIdx q 1) 0 4 v.toNat s
      | .cellCount v => fieldWrite o (queueIdx q 1) 8 4 v.toNat s
      | .producer v => fieldWrite o (queueIdx q 1) 16 4 v.toNat s
      | .consumer v => fieldWrite o (queueIdx q 1) 24 4 v.toNat s
      | .high v => regionWrite o (queueIdx q 2) (pack [(0, v.toNat)]) 0x3#4 s
      | .low v => regionWrite o (queueIdx q 2) (pack [(16, v.toNat)]) 0xC#4 s)

/-- GROUP_CONFIG_WRITE (R73). -/
def execGroupConfigWrite (o : Origin) (g : GroupId) (field : GroupField) (s : State) : Out :=
  .next
    (match field with
      | .valid v => fieldWrite o (groupIdx g 0) 0 1 (flag v) s
      | .base v => wordWrite o (groupIdx g 1) v s
      | .size v => fieldWrite o (groupIdx g 2) 0 9 v.toNat s)

/-- WINDOW_RECORD_WRITE (R20). -/
def execWindowRecordWrite (o : Origin) (w : WindowId) (k : Fin 3) (value : Word) (s : State) : Out :=
  .next (wordWrite o (windowIdx w ⟨k.val, by omega⟩) value s)

/-! ## Timebase -/

/-- REFERENCE_ENABLE_WRITE (R98, R99). -/
def execReferenceEnableWrite (o : Origin) (r : RefId) (enable : Bool) (s : State) : Out :=
  .next (fieldWrite o (globalIdx ⟨15 + 2 * r.val, by omega⟩) 0 1 (flag enable) s)

/-- REFERENCE_PRIORITY_WRITE (R99). -/
def execReferencePriorityWrite (o : Origin) (r : RefId) (priority : BitVec 2) (s : State) : Out :=
  .next (fieldWrite o (globalIdx ⟨15 + 2 * r.val, by omega⟩) 4 2 priority.toNat s)

/-- SECONDS_LOAD (R108). -/
def execSecondsLoad (o : Origin) (s : State) : Out := .next (wordWrite o (globalIdx 5) 1#32 s)

/-! ## Slots and budgets -/

/-- POWER_ON (R130). -/
def execPowerOn (o : Origin) (n : SlotId) (s : State) : Out := .next (wordWrite o (slotIdx n 2) 1#32 s)

/-- REMOVE (R130). -/
def execRemoveSlot (o : Origin) (n : SlotId) (s : State) : Out := .next (wordWrite o (slotIdx n 2) 2#32 s)

/-- CLEAR_LOCKOUT (R130). -/
def execClearLockout (o : Origin) (n : SlotId) (s : State) : Out := .next (wordWrite o (slotIdx n 2) 3#32 s)

/-- SLOT_POLICY_WRITE (R130). -/
def execSlotPolicyWrite (o : Origin) (n : SlotId) (policy : BitVec 2) (s : State) : Out :=
  .next (slotFieldWrite o n 0 2 policy.toNat 0x1#4 s)

/-- SLOT_DRAW_WRITE (R150). -/
def execSlotDrawWrite (o : Origin) (n : SlotId) (draw : BitVec 10) (s : State) : Out :=
  .next (slotFieldWrite o n 16 10 draw.toNat 0xC#4 s)

/-- SHED_PRIORITY_WRITE (R151). -/
def execShedPriorityWrite (o : Origin) (n : SlotId) (priority : BitVec 3) (s : State) : Out :=
  .next (slotFieldWrite o n 8 3 priority.toNat 0x2#4 s)

/-- CONTROL_RIGHT_WRITE (R190). -/
def execControlRightWrite (o : Origin) (n : SlotId) (right : Bool) (s : State) : Out :=
  .next (slotFieldWrite o n 4 1 (flag right) 0x1#4 s)

/-- BUDGET_WRITE (R149). -/
def execBudgetWrite (o : Origin) (field : BudgetField) (s : State) : Out :=
  .next
    (match field with
      | .mains v => fieldWrite o (globalIdx 9) 0 16 v.toNat s
      | .battery v => fieldWrite o (globalIdx 9) 16 16 v.toNat s)

/-! ## Alarm points and relays -/

/-- ACK (R164). -/
def execAckPoint (o : Origin) (point : BitVec 8) (s : State) : Out :=
  .next (wordWrite o (globalIdx 1) (pack [(0, point.toNat), (31, 1)]) s)

/-- ACK_ALL (R164). -/
def execAckAll (o : Origin) (s : State) : Out := .next (wordWrite o (globalIdx 1) (pack [(8, 1), (31, 1)]) s)

/-- POINT_ENABLE_WRITE (R165). -/
def execPointEnableWrite (o : Origin) (p : PointId) (enable : Bool) (s : State) : Out :=
  .next (fieldWrite o (pointIdx p 0) 0 1 (flag enable) s)

/-- POINT_LATCHED_WRITE (R165). -/
def execPointLatchedWrite (o : Origin) (p : PointId) (latched : Bool) (s : State) : Out :=
  .next (fieldWrite o (pointIdx p 0) 1 1 (flag latched) s)

/-- POINT_SEVERITY_WRITE (R165). -/
def execPointSeverityWrite (o : Origin) (p : PointId) (severity : BitVec 2) (s : State) : Out :=
  .next (fieldWrite o (pointIdx p 0) 4 2 severity.toNat s)

/-- POINT_RELAY_MARKS_WRITE (R165). -/
def execPointRelayMarksWrite (o : Origin) (p : PointId) (marks : BitVec 4) (s : State) : Out :=
  .next (fieldWrite o (pointIdx p 0) 8 4 marks.toNat s)

/-- POINT_SHED_TRIGGER_WRITE (R165). -/
def execPointShedTriggerWrite (o : Origin) (p : PointId) (trigger : Bool) (s : State) : Out :=
  .next (fieldWrite o (pointIdx p 0) 2 1 (flag trigger) s)

/-- RELAY_ON (R171). -/
def execRelayOn (o : Origin) (mask : BitVec 4) (s : State) : Out :=
  .next (wordWrite o (globalIdx 6) (pack [(0, mask.toNat)]) s)

/-- RELAY_OFF (R171). -/
def execRelayOff (o : Origin) (mask : BitVec 4) (s : State) : Out :=
  .next (wordWrite o (globalIdx 7) (pack [(0, mask.toNat)]) s)

/-- RELAY_FOLLOW (R171). -/
def execRelayFollow (o : Origin) (mask : BitVec 4) (s : State) : Out :=
  .next (wordWrite o (globalIdx 8) (pack [(0, mask.toNat)]) s)

/-- RELAY_CONFIG_WRITE (R168, R172). -/
def execRelayConfigWrite (o : Origin) (k : RelayId) (threshold mode : BitVec 2) (polarity : Bool) (s : State) : Out :=
  .next
    (wordWrite o (globalIdx ⟨37 + k.val, by omega⟩)
      (pack [(0, threshold.toNat), (4, mode.toNat), (8, flag polarity)]) s)

/-! ## Environment -/

/-- SENSE_MODE_WRITE (R165, R174). -/
def execSenseModeWrite (o : Origin) (i : ContactId) (mode : BitVec 3) (s : State) : Out :=
  .next (fieldWrite o (globalIdx 25) (3 * i.val) 3 mode.toNat s)

/-- SCAN_NOW (R178). -/
def execScanNow (o : Origin) (s : State) : Out := .next (wordWrite o (globalIdx 2) 1#32 s)

/-- CHANNEL_CONFIG_WRITE (R175, R179). -/
def execChannelConfigWrite (o : Origin) (j : ChannelId) (low high : BitVec 10) (hysteresis : BitVec 8) (enable : Bool)
    (s : State) : Out :=
  .next
    (wordWrite o (globalIdx ⟨26 + j.val, by omega⟩)
      (channelImage { low := low.toNat, high := high.toNat, hysteresis := hysteresis.toNat, enable := enable }) s)

/-! ## Log -/

/-- LOG_CONFIG_WRITE (R181). -/
def execLogConfigWrite (o : Origin) (field : LogField) (s : State) : Out :=
  .next
    (match field with
      | .base v => wordWrite o (globalIdx 34) v s
      | .capacity v => wordWrite o (globalIdx 35) v s)

/-- LOG_READ_INDEX_WRITE (R182). -/
def execLogReadIndexWrite (o : Origin) (index : BitVec 16) (s : State) : Out :=
  .next (wordWrite o (globalIdx 36) (pack [(0, index.toNat)]) s)

/-! ## Any word, and warm reset -/

/-- CONTROL_REGION_WRITE (R191). -/
def execControlRegionWrite (o : Origin) (idx : RegionIdx) (data : Word) (be : Mask) (s : State) : Out :=
  .next (regionWrite o idx data be s)

/-- WARM_RESET (R194). -/
def execWarmReset (o : Origin) (s : State) : Out := .next (wordWrite o (globalIdx 0) 1#32 s)

end Sys2Proof.Machine
end

