-- ==== Sys2Proof/Machine/Dispatch.lean ====
section
/-! DEFINITION. One arm for each command of the table. -/

namespace Sys2Proof.Machine

def exec (i : Instr) (s : State) : Host.Outcome State Fault Refusal :=
  match i with
  | .coldReset straps => Sys2Proof.Machine.execColdReset straps s
  | .coldStartUpWriteComplete => Sys2Proof.Machine.execColdStartUpWriteComplete s
  | .readFrameArrival n tag addr count => Sys2Proof.Machine.execReadFrameArrival n tag addr count s
  | .writeFrameArrival n addr first last data => Sys2Proof.Machine.execWriteFrameArrival n addr first last data s
  | .readyToFenceArrival n => Sys2Proof.Machine.execReadyToFenceArrival n s
  | .idleArrival n => Sys2Proof.Machine.execIdleArrival n s
  | .echoReplyArrival n seq turnaround => Sys2Proof.Machine.execEchoReplyArrival n seq turnaround s
  | .frameCheckFailed n => Sys2Proof.Machine.execFrameCheckFailed n s
  | .echoCadenceDue n => Sys2Proof.Machine.execEchoCadenceDue n s
  | .echoReplyTimerExpiry n => Sys2Proof.Machine.execEchoReplyTimerExpiry n s
  | .errorWindowEnd n => Sys2Proof.Machine.execErrorWindowEnd n s
  | .sendGo n => Sys2Proof.Machine.execSendGo n s
  | .sendHold n => Sys2Proof.Machine.execSendHold n s
  | .sendEcho n => Sys2Proof.Machine.execSendEcho n s
  | .sendData n => Sys2Proof.Machine.execSendData n s
  | .sendNotice n => Sys2Proof.Machine.execSendNotice n s
  | .sendIdle n => Sys2Proof.Machine.execSendIdle n s
  | .resyncAdd n => Sys2Proof.Machine.execResyncAdd n s
  | .windowTakeRead n => Sys2Proof.Machine.execWindowTakeRead n s
  | .windowTakeWrite n => Sys2Proof.Machine.execWindowTakeWrite n s
  | .readyToFenceTaken n => Sys2Proof.Machine.execReadyToFenceTaken n s
  | .timeWord0Read n => Sys2Proof.Machine.execTimeWord0Read n s
  | .statusMarkRead n => Sys2Proof.Machine.execStatusMarkRead n s
  | .heldReadRelease n => Sys2Proof.Machine.execHeldReadRelease n s
  | .memoryGrant => Sys2Proof.Machine.execMemoryGrant s
  | .slotReadComplete => Sys2Proof.Machine.execSlotReadComplete s
  | .slotWriteComplete => Sys2Proof.Machine.execSlotWriteComplete s
  | .openQueue o q => Sys2Proof.Machine.execOpenQueue o q s
  | .closeQueue o q => Sys2Proof.Machine.execCloseQueue o q s
  | .queueZeroingOffer => Sys2Proof.Machine.execQueueZeroingOffer s
  | .zeroingComplete => Sys2Proof.Machine.execZeroingComplete s
  | .armGroup o g f => Sys2Proof.Machine.execArmGroup o g f s
  | .disarmGroup o g => Sys2Proof.Machine.execDisarmGroup o g s
  | .discardGroup o g => Sys2Proof.Machine.execDiscardGroup o g s
  | .armWordIgnored o g data enables => Sys2Proof.Machine.execArmWordIgnored o g data enables s
  | .continuousFrameTick order => Sys2Proof.Machine.execContinuousFrameTick order s
  | .commitRoundStart => Sys2Proof.Machine.execCommitRoundStart s
  | .commitTransactionComplete => Sys2Proof.Machine.execCommitTransactionComplete s
  | .pulseEvent r order => Sys2Proof.Machine.execPulseEvent r order s
  | .missTimerExpiry r => Sys2Proof.Machine.execMissTimerExpiry r s
  | .holdoverTimerExpiry => Sys2Proof.Machine.execHoldoverTimerExpiry s
  | .referenceEnableWrite o r enable => Sys2Proof.Machine.execReferenceEnableWrite o r enable s
  | .referencePriorityWrite o r priority => Sys2Proof.Machine.execReferencePriorityWrite o r priority s
  | .secondsLoad o => Sys2Proof.Machine.execSecondsLoad o s
  | .slotLineSample n lines => Sys2Proof.Machine.execSlotLineSample n lines s
  | .presentDebounced n lines => Sys2Proof.Machine.execPresentDebounced n lines s
  | .latchDebounced n lines => Sys2Proof.Machine.execLatchDebounced n lines s
  | .pgoodSteady n lines => Sys2Proof.Machine.execPgoodSteady n lines s
  | .pgoodLost n lines => Sys2Proof.Machine.execPgoodLost n lines s
  | .rampTimerExpiry n => Sys2Proof.Machine.execRampTimerExpiry n s
  | .linkTimerExpiry n => Sys2Proof.Machine.execLinkTimerExpiry n s
  | .drainTimerExpiry n => Sys2Proof.Machine.execDrainTimerExpiry n s
  | .powerDownTimerExpiry n => Sys2Proof.Machine.execPowerDownTimerExpiry n s
  | .realignLimitExpiry n => Sys2Proof.Machine.execRealignLimitExpiry n s
  | .backoffTimerExpiry n => Sys2Proof.Machine.execBackoffTimerExpiry n s
  | .powerOn o n => Sys2Proof.Machine.execPowerOn o n s
  | .removeSlot o n => Sys2Proof.Machine.execRemoveSlot o n s
  | .clearLockout o n => Sys2Proof.Machine.execClearLockout o n s
  | .slotPolicyWrite o n policy => Sys2Proof.Machine.execSlotPolicyWrite o n policy s
  | .slotDrawWrite o n draw => Sys2Proof.Machine.execSlotDrawWrite o n draw s
  | .shedPriorityWrite o n priority => Sys2Proof.Machine.execShedPriorityWrite o n priority s
  | .controlRightWrite o n right => Sys2Proof.Machine.execControlRightWrite o n right s
  | .admitHead => Sys2Proof.Machine.execAdmitHead s
  | .readmitHead => Sys2Proof.Machine.execReadmitHead s
  | .budgetWrite o field => Sys2Proof.Machine.execBudgetWrite o field s
  | .raiseDebounceExpiry p => Sys2Proof.Machine.execRaiseDebounceExpiry p s
  | .clearDebounceExpiry p => Sys2Proof.Machine.execClearDebounceExpiry p s
  | .ackPoint o point => Sys2Proof.Machine.execAckPoint o point s
  | .ackAll o => Sys2Proof.Machine.execAckAll o s
  | .pointEnableWrite o p enable => Sys2Proof.Machine.execPointEnableWrite o p enable s
  | .pointLatchedWrite o p latched => Sys2Proof.Machine.execPointLatchedWrite o p latched s
  | .pointSeverityWrite o p severity => Sys2Proof.Machine.execPointSeverityWrite o p severity s
  | .pointRelayMarksWrite o p marks => Sys2Proof.Machine.execPointRelayMarksWrite o p marks s
  | .pointShedTriggerWrite o p trigger => Sys2Proof.Machine.execPointShedTriggerWrite o p trigger s
  | .relayOn o mask => Sys2Proof.Machine.execRelayOn o mask s
  | .relayOff o mask => Sys2Proof.Machine.execRelayOff o mask s
  | .relayFollow o mask => Sys2Proof.Machine.execRelayFollow o mask s
  | .relayConfigWrite o k threshold mode polarity => Sys2Proof.Machine.execRelayConfigWrite o k threshold mode polarity s
  | .contactSample sample => Sys2Proof.Machine.execContactSample sample s
  | .senseModeWrite o inp mode => Sys2Proof.Machine.execSenseModeWrite o inp mode s
  | .scanIntervalExpiry => Sys2Proof.Machine.execScanIntervalExpiry s
  | .scanNow o => Sys2Proof.Machine.execScanNow o s
  | .conversionComplete vin vref => Sys2Proof.Machine.execConversionComplete vin vref s
  | .channelConfigWrite o j low high hysteresis enable => Sys2Proof.Machine.execChannelConfigWrite o j low high hysteresis enable s
  | .logWriteComplete => Sys2Proof.Machine.execLogWriteComplete s
  | .logConfigWrite o field => Sys2Proof.Machine.execLogConfigWrite o field s
  | .logReadIndexWrite o index => Sys2Proof.Machine.execLogReadIndexWrite o index s
  | .windowRecordWrite o w k value => Sys2Proof.Machine.execWindowRecordWrite o w k value s
  | .groupConfigWrite o g field => Sys2Proof.Machine.execGroupConfigWrite o g field s
  | .queueDescriptorWrite o q field => Sys2Proof.Machine.execQueueDescriptorWrite o q field s
  | .controlRegionWrite o idx data enables => Sys2Proof.Machine.execControlRegionWrite o idx data enables s
  | .warmReset o => Sys2Proof.Machine.execWarmReset o s
  | .warmResetCarriedOut => Sys2Proof.Machine.execWarmResetCarriedOut s
  | .localOscillatorPeriod order => Sys2Proof.Machine.execLocalOscillatorPeriod order s
  | .transmitFrameEnd n => Sys2Proof.Machine.execTransmitFrameEnd n s
  | .referenceLineEdge r rising => Sys2Proof.Machine.execReferenceLineEdge r rising s

end Sys2Proof.Machine
end

