-- ==== Sys2Proof/Safety.lean ====
section
/-! DEFINITION. What counts as a sound state of the block: the invariants that the manual's whole-machine rules state, each
to be kept by every step from every state that meets it; and the terms in which the statements about single commands are
made. -/

namespace Sys2Proof.Machine

open Sys2Proof

/-! ## Terms of the statements -/

/-- Every byte of shared memory reads in `t` as it read in `s`. -/
def SameMemory (s t : State) : Prop := ∀ a : Nat, readByte t.mem a = readByte s.mem a

/-- A one-word WRITE from this origin reaches this word of the control region and its slot holds the control right: the
slot's link is OPEN, its buffer is empty and nothing of it waits, the word's address translates to the region word with
outcome PASS (R8, R21, R23, R30, R190). -/
def ReachesRegion (s : State) (o : Origin) (idx : RegionIdx) : Prop :=
  reaches s o (.mem (regionBase s + 4 * idx.val)) = true ∧ s.cfg.slots[o.slot].right = true

/-- The same, of group g's arm word (R78, R79). -/
def ReachesArm (s : State) (o : Origin) (g : GroupId) : Prop := reaches s o (.arm g (armAddr s.cfg.groups[g])) = true

/-- The state holds the write transaction of one region word for slot n: the word's bytes are the copy's at the grant
(R33, R191). -/
def WaitsRegionWord (t : State) (n : SlotId) (idx : RegionIdx) : Prop :=
  t.port.waiting[n] = some (.write [{ addr := regionBase t + 4 * idx.val, data := 0#32, mask := Mask.all, region := true }] [])

/-- No point carries a shed-trigger mark (R149), and no slot is a candidate for power (R151): an event that makes none then
ends with its own reports. -/
def Calm (s : State) : Prop :=
  (∀ p : PointId, s.cfg.points[p].shedTrigger = false) ∧ (∀ n : SlotId, candidate s n = false)

/-- `t` is `s` but for points, relays, change marks, notice lists and the log writer, which reports change. -/
def SameButReports (s t : State) : Prop :=
  t = { s with points := t.points, relays := t.relays, marks := t.marks, lists := t.lists, log := t.log }

/-- `t` is `s` but for link port n. -/
def SameButLink (n : SlotId) (s t : State) : Prop :=
  (∀ m : SlotId, m ≠ n → t.links[m] = s.links[m]) ∧ t = { s with links := t.links }

/-- The request a READ, WRITE or READY_TO_FENCE arrival carries to the input buffer, if its word count is in 1..16 (R2, R8). -/
def arrivingRequest : Instr → Option (SlotId × Request)
  | .readFrameArrival n tag addr count => if 1 ≤ count ∧ count ≤ 16 then some (n, .read tag addr count) else none
  | .writeFrameArrival n addr first last data =>
    if 1 ≤ data.length ∧ data.length ≤ 16 then some (n, .write addr first last data) else none
  | .readyToFenceArrival n => some (n, .readyToFence)
  | _ => none

/-- Slot n's port stands ready for the window unit with this one-word WRITE at the head of its buffer, and the word goes to
`d` with outcome PASS (R9, R21, R23, R30). -/
def HeadWord (s : State) (n : SlotId) (addr : Word) (first last : Mask) (data : Word) (rest : List Request) (d : Dest) :
    Prop :=
  s.links[n].state = .opened ∧ s.port.waiting[n] = none ∧ s.links[n].buffer = .write addr first last [data] :: rest ∧
    placeBurst s writeOutcome n addr 1 = [{ addr := firstWord addr, dest := d, outcome := .pass }]

/-- What ACK makes of a point (R164): an active, unacknowledged, enabled point is acknowledged, and from RAISED goes on where it
behaves as latched and its condition is absent. -/
def ackedPoint (s : State) (p : PointId) : Point :=
  if s.cfg.points[p].enable = true ∧ active s.points[p] = true ∧ s.points[p].acked = false then
    if s.points[p].state = .raised ∧ (isEvent s p = true ∨ s.cfg.points[p].latched = true) ∧ s.points[p].cond = false then
      if s.cfg.points[p].clearDebounce = 0 then { s.points[p] with state := .clear, acked := false, timer := none }
      else { s.points[p] with state := .falling, acked := true, timer := some s.cfg.points[p].clearDebounce }
    else { s.points[p] with acked := true }
  else s.points[p]

/-- No slot subscribes to alarms (R63): a change of a point then reaches no notice list. -/
def NoAlarmSub (s : State) : Prop := ∀ m : SlotId, s.cfg.slots[m].alarmSub = false

/-- What the notice of an identity makes of a live slot's list (R62, R66, R67): merged into the entry of its identity, in its
place; lost while a RESYNC waits or the overflow mark is set; a new entry of count 1, a FRAME at the head and any other at the
tail, below 32 entries; otherwise lost, with the mark set. -/
def takenList (id : NoticeId) (d : Details) (l : NoticeList) : NoticeList :=
  if ∃ e ∈ l.entries, e.id = id then
    { l with entries := l.entries.map fun e =>
        if e.id = id then { e with details := d, count := min 255 (e.count + 1) } else e }
  else if (∃ e ∈ l.entries, e.id = .resync) ∨ l.overflow = true then l
  else if l.entries.length < 32 then
    { l with entries := if id = .frame then { id := id, details := d, count := 1 } :: l.entries
                        else l.entries ++ [{ id := id, details := d, count := 1 }] }
  else { l with overflow := true }

/-- Slot m's list once a notice is handed for it where `receives` holds. -/
def told (receives : Bool) (id : NoticeId) (d : Details) (l : NoticeList) : NoticeList :=
  if receives then takenList id d l else l

/-- Slot m's list after the SWAP notice of slot n's change to `st` (R64, R146): a live slot subscribed to it receives it, and n
itself as it enters QUIESCING; n is live by the state it has entered. -/
def swapTold (s : State) (n : SlotId) (st : SwapState) (cause : Reason) (m : SlotId) (l : NoticeList) : NoticeList :=
  told
    (if m = n then st = .quiescing || st = .active && s.cfg.slots[n].swapSub else live s m && s.cfg.slots[m].swapSub)
    (.swap n) (.swap st cause) l

/-- Slot m's list after the QUEUE_DETACHED notices of slot n's leaving (R53, R57): of each OPEN queue with n at one end and m
at the other, in ascending queue number. -/
def detachTold (s : State) (n m : SlotId) (l : NoticeList) : NoticeList :=
  (List.finRange 64).foldl (fun l q =>
    told
      (s.queues[q].state = .opened && m ≠ n && live s m &&
        (s.cfg.queues[q].producer = n.val && s.cfg.queues[q].consumer = m.val ||
          s.cfg.queues[q].consumer = n.val && s.cfg.queues[q].producer = m.val))
      (.queue .detached q) (.indices s.queues[q].p s.queues[q].c) l) l

/-- Slot m's list after a change of slot n's swap state to `st` (R53, R64, R70, R146). A slot that stops being live has its own
list emptied, and the notices of the queues it detaches come before the SWAP notice. -/
def movedTold (s : State) (n : SlotId) (st : SwapState) (cause : Reason) (m : SlotId) : NoticeList :=
  if live s n = true ∧ st ≠ .active ∧ st ≠ .quiescing then
    if m = n then { entries := [], overflow := false }
    else swapTold s n st cause m (detachTold s n m s.lists[m])
  else swapTold s n st cause m s.lists[m]

/-- Slot m's list after the COMMIT_DONE notices of the groups listed (R61, R89). -/
def commitTold (s : State) (gs : List GroupId) (result : CommitResult) (count : GroupId → Nat) (m : SlotId)
    (l : NoticeList) : NoticeList :=
  gs.foldl (fun l g => told (live s m && usesGroup s g m) (.commitDone g) (.commit result (count g)) l) l

/-- Slot m's list after the FRAME notice of the frame `f` that starts at (sec, ns) (R119, R120), with the measured delay of m's
link and the loop state. -/
def frameTold (s : State) (f sec ns : Nat) (loop : LoopState) (disc : Bool) (m : SlotId) (l : NoticeList) : NoticeList :=
  told (live s m && s.cfg.slots[m].frameSub) .frame
    (.frame f (sec % 2 ^ 32) (ns / 10000000 * 10000000) s.links[m].delay loop disc) l

/-- Slot m's list after the ALARM notice of point p (R63, R166). -/
def alarmTold (s : State) (p : PointId) (ch : Change) (st : PointState) (acked : Bool) (m : SlotId) (l : NoticeList) :
    NoticeList :=
  told
    (live s m && s.cfg.slots[m].alarmSub &&
      severityCode s.cfg.points[p].severity ≤ severityCode s.cfg.slots[m].alarmThreshold)
    (.alarm p) (.alarm ch st s.cfg.points[p].severity acked) l

/-- A list takes a notice of this identity without a loss that sets its overflow mark (R62, R66, R67). -/
def TakesNotice (id : NoticeId) (l : NoticeList) : Prop :=
  (∃ e ∈ l.entries, e.id = id ∨ e.id = .resync) ∨ l.overflow = true ∨ l.entries.length < 32

/-- A report of point p loses nothing, so that no event of point 55 or 57 follows it: no receiver's list is full, and the log is
off or has room with nothing lost (R66, R183). -/
def LosesNothing (s : State) (p : PointId) : Prop :=
  (∀ m : SlotId, live s m = true → s.cfg.slots[m].alarmSub = true → TakesNotice (.alarm p) s.lists[m]) ∧
  (s.cfg.logCode = 0 ∨ s.log.lost = 0 ∧ index16 s.log.accept s.cfg.logRead < 2 ^ s.cfg.logCode ∧ s.log.queue.length < 128)

/-- Queue q after slot n has become live (R44, R55): one that waits for n, in WAITING or DETACHED, and has its other endpoint
live goes to OPENING. -/
def attachedTo (s : State) (n : SlotId) (q : QueueId) : Queue :=
  let c := s.cfg.queues[q]
  if (c.producer = n.val ∨ c.consumer = n.val) ∧ (c.producer = n.val ∨ liveNumber s c.producer = true) ∧
      (c.consumer = n.val ∨ liveNumber s c.consumer = true) ∧
      (s.queues[q].state = .waiting ∨ s.queues[q].state = .detached) then
    { s.queues[q] with state := .opening, offered := false }
  else s.queues[q]

/-- Queue q after slot n has stopped being live (R53): OPEN goes to DETACHED and OPENING back to WAITING. -/
def detachedFrom (s : State) (n : SlotId) (q : QueueId) : Queue :=
  if s.cfg.queues[q].producer = n.val ∨ s.cfg.queues[q].consumer = n.val then
    if s.queues[q].state = .opened then { s.queues[q] with state := .detached }
    else if s.queues[q].state = .opening then { s.queues[q] with state := .waiting }
    else s.queues[q]
  else s.queues[q]

/-- Slot a ranks before slot b for power (R151): the lower shed priority number, then the lower slot number. -/
def RanksBefore (s : State) (a b : SlotId) : Prop :=
  s.cfg.slots[a].shedPriority < s.cfg.slots[b].shedPriority ∨
    s.cfg.slots[a].shedPriority = s.cfg.slots[b].shedPriority ∧ a < b

/-- The queues after slot n, live or not before, is live no more (R53). -/
def queueAfter (s : State) (n : SlotId) (q : QueueId) : Queue := if live s n then detachedFrom s n q else s.queues[q]

/-- The draws that a budget formed now would leave promised once every slot that is marked before slot n is marked (R155): of
the slots with a clear mark, n itself and those that rank before it for power. -/
def promisedDownTo (s : State) (n : SlotId) : Nat :=
  ((List.finRange 12).map fun m =>
    if s.adm[m].shed = false ∧ (m = n ∨ ranksBefore s m n = true) then s.adm[m].draw else 0).sum

/-- A budget of B watts marks slot n when it is formed (R155). -/
def Marked (s : State) (B : Nat) (n : SlotId) : Prop := s.adm[n].shed = false ∧ 0 < s.adm[n].draw ∧ B < promisedDownTo s n

/-- `t` is what the shed marks of a budget of B watts make of the slots of `s` (R155, R156): a marked slot in POWERING or
LINKING goes to OFF(SHED), from which it may be admitted again at the same event (R153); an ACTIVE one to QUIESCING(SHED); one
in QUIESCING takes SHED as its cause; no other slot changes. -/
def ShedBy (s t : State) (B : Nat) : Prop :=
  ∀ n : SlotId,
    (¬ Marked s B n → t.swaps[n] = s.swaps[n] ∧ t.adm[n] = s.adm[n]) ∧
    (Marked s B n → s.swaps[n].state = .powering ∨ s.swaps[n].state = .linking →
      t.swaps[n].state = .off ∧ t.swaps[n].reason = .shed ∧ t.swaps[n].pwrEn = false ∧ t.swaps[n].readyLit = true ∧
          t.adm[n] = { draw := 0, shed := false } ∨
        powerReady s n = true ∧ t.swaps[n].state = .powering ∧ t.adm[n] = { draw := s.cfg.slots[n].draw, shed := false }) ∧
    (Marked s B n → s.swaps[n].state = .active →
      t.swaps[n].state = .quiescing ∧ t.swaps[n].reason = .shed ∧ t.swaps[n].stateTimer = some s.cfg.drainTimeout ∧
        t.adm[n] = { s.adm[n] with shed := true }) ∧
    (Marked s B n → s.swaps[n].state = .quiescing →
      t.swaps[n] = { s.swaps[n] with reason := .shed } ∧ t.adm[n] = { s.adm[n] with shed := true })

/-- What the marks of a budget of B watts tell, with no slot subscribed to alarms (R64, R146): where they name one slot alone,
and it is ACTIVE, its SWAP notice as it enters QUIESCING; where they name none, nothing. -/
def ShedTold (s t : State) (B : Nat) : Prop :=
  NoAlarmSub s →
    ((∀ n : SlotId, ¬ Marked s B n) → t.lists = s.lists) ∧
    (∀ n : SlotId, Marked s B n → (∀ m : SlotId, m ≠ n → ¬ Marked s B m) → s.swaps[n].state = .active →
      ∀ m : SlotId, t.lists[m] = swapTold s n .quiescing .shed m s.lists[m])

/-- No slot that a budget of B watts marks hands point p a condition that ends the one its record holds (R14, R144). -/
def ShedKeeps (s : State) (B : Nat) (p : PointId) : Prop :=
  s.points[p].cond = false ∨ ∀ n : SlotId, Marked s B n → p.val ≠ n.val ∧ p.val ≠ 12 + n.val

/-- `t` is what an adjustment of cabinet time by x ns, at a pulse of reference r, leaves beside cabinet time itself (R88, R109,
R118, R120): every outstanding echo void; the other reference's capture and pending edge moved with the time; and, where the
frame number changes, a discontinuous tick: every ARMED group OPEN with its COMMIT_DONE DISCONTINUITY, and the FRAME notices. -/
def Adjusted (s t : State) (r : RefId) (order : TickOrder) (x : Int) : Prop :=
  (∀ n : SlotId, t.links[n] = { s.links[n] with echo := none, replyTimer := none }) ∧
  (∀ q : RefId, q ≠ r → t.refs[q] =
    { s.refs[q] with capture := s.refs[q].capture.map (Stamp.move x),
                     edge := s.refs[q].edge.map fun e => { e with capture := Stamp.move x e.capture } }) ∧
  t.frame = (t.time.sec * 100 + t.time.ns / 10000000) % 1024 ∧ t.staged = s.staged ∧ t.rounds = s.rounds ∧
  (∀ g : GroupId, t.groups[g] =
    if t.frame ≠ s.frame ∧ s.groups[g].state = .armed then { s.groups[g] with state := .opened } else s.groups[g]) ∧
  (NoAlarmSub s → ∀ m : SlotId, t.lists[m] =
    if t.frame = s.frame then s.lists[m]
    else
      let gs := (List.finRange 16).filter fun g => decide (s.groups[g].state = .armed)
      match order with
      | .stagingFirst =>
        frameTold s t.frame t.time.sec t.time.ns t.time.loop true m
          (commitTold s gs .discontinuity (fun g => s.groups[g].entryCount) m s.lists[m])
      | .framesFirst =>
        commitTold s gs .discontinuity (fun g => s.groups[g].entryCount) m
          (frameTold s t.frame t.time.sec t.time.ns t.time.loop true m s.lists[m]))

/-- A window covers a word's slot address (R19). -/
def WindowCfg.Holds (w : WindowCfg) (a : Nat) : Prop :=
  w.valid = true ∧ w.localBase ≤ a ∧
    a < w.localBase + (match w.kind with
      | .time => 4096
      | .status => 4096
      | .plain => 2 ^ w.size
      | .staged => 2 ^ w.size) ∧ a < 2 ^ 32

/-- Where a window takes a word's slot address (R19, R21, R28). -/
def WindowCfg.Leads (s : State) (w : WindowCfg) (a : Nat) (d : Dest) : Prop :=
  let phys := w.physBase / 2 ^ w.size * 2 ^ w.size + (a - w.localBase)
  (¬ w.Holds a → d = .unmapped) ∧
  (w.Holds a → w.kind = .time → d = .time ((a - w.localBase) / 4)) ∧
  (w.Holds a → w.kind = .status → d = .status ((a - w.localBase) / 4)) ∧
  (w.Holds a → w.kind = .plain ∨ w.kind = .staged →
    (MemSize.bytes s.memSize ≤ phys → d = .unmapped) ∧
    (phys < MemSize.bytes s.memSize →
      (w.kind = .plain → d = .mem phys) ∧
      (w.kind = .staged →
        (let c := s.cfg.groups[w.group]
         (c.valid = true ∧ c.base ≤ phys ∧ phys < c.base + c.pages * 4096 →
           d = if phys = c.base + c.pages * 4096 - 4 then .arm w.group phys else .staged w.group phys) ∧
         (¬ (c.valid = true ∧ c.base ≤ phys ∧ phys < c.base + c.pages * 4096) → d = .mem phys)))))

/-- Word i of a burst of slot n from slot address a0 is judged as `p` (R19, R21): by the valid window of the lowest index that
covers a0, which alone places every word; with none, each word is UNMAPPED. -/
def JudgedBy (s : State) (n : SlotId) (a0 i : Nat) (outcome : Rights → Dest → WordOutcome) (p : Placed) : Prop :=
  p.addr = a0 + 4 * i ∧
  ((∀ k : Fin 8, ¬ (s.cfg.windows[8 * n.val + k.val]).Holds a0) → p.dest = .unmapped ∧ p.outcome = .unmapped) ∧
  (∀ k : Fin 8, (s.cfg.windows[8 * n.val + k.val]).Holds a0 →
    (∀ j : Fin 8, j < k → ¬ (s.cfg.windows[8 * n.val + j.val]).Holds a0) →
    (s.cfg.windows[8 * n.val + k.val]).Leads s (a0 + 4 * i) p.dest ∧
      p.outcome = outcome (s.cfg.windows[8 * n.val + k.val]).rights p.dest)

/-- The outcome of a READ's word by the window's rights (R23). -/
def readVerdict (r : Rights) (d : Dest) : WordOutcome :=
  match d with
  | .unmapped => .unmapped
  | _ =>
    match r with
    | .read => .pass
    | .write => .rights
    | .readWrite => .pass

/-- The outcome of a WRITE's word by the window's rights (R23). -/
def writeVerdict (r : Rights) (d : Dest) : WordOutcome :=
  match d with
  | .unmapped => .unmapped
  | .time _ => .partServedWrite
  | .status _ => .partServedWrite
  | _ =>
    match r with
    | .read => .rights
    | .write => .pass
    | .readWrite => .pass

/-- The value a READ's word has at its taking, by the latch the READ finds or takes (R24, R28, R78, R122 to R124, R187); a
memory word has none yet. -/
def takenValue (s : State) (n : SlotId) (latch : Latch) (p : Placed) : Option Word :=
  if p.outcome ≠ .pass then some 0xFFFFFFFF#32
  else
    match p.dest with
    | .unmapped => some 0xFFFFFFFF#32
    | .mem _ => none
    | .staged _ _ => none
    | .time k =>
      some (BitVec.ofNat 32 (match k with
        | 0 => s.time.ns
        | 1 => latch.sec
        | 2 => latch.sec / 2 ^ 32 % 2 ^ 16
        | 3 => latch.frame + loopCode latch.loop * 2 ^ 16
        | _ => 0))
    | .status k => some (statusWord s n k)
    | .arm g _ =>
      let x := s.groups[g]
      some (BitVec.ofNat 32 (groupCode x.state + (if x.torn then 4 else 0) + (if x.pendingArm.isSome then 8 else 0) +
        x.armedFrame * 2 ^ 4 + x.entryCount * 2 ^ 16))

/-- The record of a reported change of point p (R166): its kind, point, severity in force, raise count, the time, and the
value. -/
def changeRecord (s : State) (p : PointId) (ch : Change) (count value : Nat) : LogDraft :=
  { kind := .change ch, point := p, severity := s.cfg.points[p].severity, count := count, sec := s.time.sec % 2 ^ 32,
    ns := s.time.ns, value := value }

/-- The value the record of a change of point p carries (R166): the slot's swap state code for a slot's point, the latest result
for a channel's, otherwise 0. -/
def recordValue (s : State) (p : PointId) : Nat :=
  if h : p.val < 12 then swapCode s.swaps[p.val].state
  else if 32 ≤ p.val ∧ p.val < 48 then s.channels[p.val % 8].result.getD 0
  else 0

/-- The four words of a record in memory (R195, section 13.6): sequence 15:0, kind 19:16, severity 23:20 and point 31:24; raise
count 15:0 and value 31:16; the seconds; the nanoseconds. -/
def recordImage (r : LogRecord) : List Word :=
  [BitVec.ofNat 32 (r.seq + logKindCode r.draft.kind * 2 ^ 16 + severityCode r.draft.severity * 2 ^ 20 +
      r.draft.point.val * 2 ^ 24),
    BitVec.ofNat 32 (r.draft.count + r.draft.value * 2 ^ 16), BitVec.ofNat 32 r.draft.sec, BitVec.ofNat 32 r.draft.ns]

/-- The SEND commands of link port n. -/
def sendRows (n : SlotId) : List Instr := [.sendGo n, .sendHold n, .sendEcho n, .sendNotice n, .sendData n, .sendIdle n]

/-- The one of them that a free transmit side in OPEN carries out, the first that applies (R12): the GO owed or pending, the
pending HOLD, a due ECHO, a FRAME notice at the head, the head read's answer, another notice, IDLE. -/
def sendChosen (s : State) (n : SlotId) : Instr :=
  if s.links[n].goOwed = true ∨ s.links[n].mark = some .go then .sendGo n
  else if s.links[n].mark = some .hold then .sendHold n
  else if s.links[n].echoDue = true then .sendEcho n
  else if s.lists[n].entries.head?.any (fun e => decide (e.id = .frame)) then .sendNotice n
  else if s.links[n].reads.head?.any (fun e => e.words.all Option.isSome) then .sendData n
  else if s.lists[n].entries ≠ [] then .sendNotice n
  else .sendIdle n

/-! ### Commit rounds and the READs they hold (R32, R87) -/

/-- One of these words lies in the range of a group that is COMMITTING (R32). -/
def UnderCommit (s : State) (addrs : List Nat) : Prop :=
  ∃ a ∈ addrs, ∃ g : GroupId, s.groups[g].state = .committing ∧ s.cfg.groups[g].valid = true ∧
    s.cfg.groups[g].base ≤ a ∧ a < s.cfg.groups[g].base + s.cfg.groups[g].pages * 4096

/-- Every READ that waits at the port of `s` waits at that of `t`, held exactly while one of its words lies in the range of a
COMMITTING group of `t`; a slot with no READ waiting has what it had (R32). -/
def HoldsJudged (s t : State) : Prop :=
  ∀ n : SlotId,
    (∀ id addrs held, s.port.waiting[n] = some (.read id addrs held) →
      ∃ h, t.port.waiting[n] = some (.read id addrs h) ∧ (h = true ↔ UnderCommit t addrs)) ∧
    ((∀ id addrs held, s.port.waiting[n] ≠ some (.read id addrs held)) → t.port.waiting[n] = s.port.waiting[n])

/-- A group as its round ends (R87): ARMED with its pending ARM's frame, or OPEN where none is pending. -/
def roundClosed (x : Group) : Group :=
  match x.pendingArm with
  | some f => { x with state := .armed, armedFrame := f, pendingArm := none }
  | none => { x with state := .opened }

/-- `t` is `s` after a WARM_RESET that was pending is carried out (R18, R36, R56, R70, R92, R125, R188, R194). -/
def Warmed (s t : State) : Prop :=
  t = { s with warmPending := false, links := t.links, port := t.port, queues := t.queues, lists := t.lists,
               groups := t.groups, staged := [], latches := t.latches, marks := t.marks } ∧
  (∀ n : SlotId,
    t.links[n] =
      { s.links[n] with buffer := [], reads := [], holdFlag := false,
                        mark := if s.links[n].holdFlag then (if s.links[n].mark = some .hold then none else some .go)
                                else s.links[n].mark } ∧
    t.lists[n] = { entries := [], overflow := false } ∧ t.latches[n] = { sec := 0, frame := 0, loop := .free } ∧
    t.marks[n] = { swap := 0#12, points := 0#58 } ∧
    (∀ id addrs held, s.port.waiting[n] = some (.read id addrs held) → t.port.waiting[n] = none) ∧
    ((∀ id addrs held, s.port.waiting[n] ≠ some (.read id addrs held)) → t.port.waiting[n] = s.port.waiting[n])) ∧
  t.port = { s.port with waiting := t.port.waiting, zeroing := none } ∧
  (∀ q : QueueId, t.queues[q] = { s.queues[q] with state := .closed }) ∧
  (∀ g : GroupId, t.groups[g] = { s.groups[g] with state := .opened, pendingArm := none, torn := false, entryCount := 0 })

/-! ### Words of a WRITE (R1, R27) -/

/-- The byte enables of word i of a WRITE of `count` words: the first word's, the last word's, both for a single word, and every
byte of an inner word (R1). -/
def burstEnables (first last : Mask) (count i : Nat) : Mask :=
  if count = 1 then first &&& last else if i = 0 then first else if i + 1 = count then last else Mask.all

/-- The words of a WRITE that go to memory as they stand (R27, R33): each that passes and lies outside the control region and on
no index word, in ascending address order. -/
def burstWords (s : State) (ps : List Placed) (first last : Mask) (data : List Word) : List WriteWord :=
  ((ps.zip data).zipIdx).filterMap fun ((p, d), i) =>
    match p.dest with
    | .mem a =>
      if p.outcome = .pass ∧ inRegion s a = false ∧ indexWord s a = none then
        some { addr := a, data := d, mask := burstEnables first last data.length i, region := false }
      else none
    | _ => none

/-- The words of a WRITE for the staging unit (R28): each that passes, in ascending address order, with the group and the
address its window gives it. -/
def burstStaging (ps : List Placed) (first last : Mask) (data : List Word) : List StagingWord :=
  ((ps.zip data).zipIdx).filterMap fun ((p, d), i) =>
    match p.dest with
    | .staged g a => if p.outcome = .pass then some (.staged g a d (burstEnables first last data.length i)) else none
    | .arm g _ => if p.outcome = .pass then some (.arm g d (burstEnables first last data.length i)) else none
    | _ => none

/-- The address lies in the range of the valid group g and is not its arm word (R28, R91). -/
def StagesAt (s : State) (g : GroupId) (a : Nat) : Prop :=
  s.cfg.groups[g].valid = true ∧ s.cfg.groups[g].base ≤ a ∧
    a < s.cfg.groups[g].base + s.cfg.groups[g].pages * 4096 ∧ a ≠ s.cfg.groups[g].base + s.cfg.groups[g].pages * 4096 - 4

/-- What a word that slot n stages for group g at `a` makes of the staging list and the groups of `s` (R74, R75, R76, R90). -/
def StagesWord (n : SlotId) (g : GroupId) (a : Nat) (data : Word) (be : Mask) (s t : State) : Prop :=
  let next := decide (s.groups[g].state = .committing)
  (∀ h : GroupId, h ≠ g → t.groups[h] = s.groups[h]) ∧
  (be = 0#4 ∨ live s n = false → t.staged = s.staged ∧ t.groups = s.groups) ∧
  (live s n = true → be ≠ 0#4 → (∃ e ∈ s.staged, e.group = g ∧ e.addr = a ∧ e.next = next) → t.groups = s.groups ∧
    t.staged = s.staged.map fun e =>
      if e.group = g ∧ e.addr = a ∧ e.next = next then
        { e with data := mergeBytes e.data data be, mask := e.mask ||| be, origin := e.origin ||| (1#12 <<< n.val) }
      else e) ∧
  (live s n = true → be ≠ 0#4 → (∀ e ∈ s.staged, ¬ (e.group = g ∧ e.addr = a ∧ e.next = next)) → s.staged.length < 256 →
    t.groups[g] = { s.groups[g] with entryCount := s.groups[g].entryCount + 1 } ∧
    t.staged = s.staged ++
      [{ group := g, addr := a, data := mergeBytes 0#32 data be, mask := be, origin := 1#12 <<< n.val, next := next }]) ∧
  (live s n = true → be ≠ 0#4 → (∀ e ∈ s.staged, ¬ (e.group = g ∧ e.addr = a ∧ e.next = next)) → 256 ≤ s.staged.length →
    t.staged = s.staged ∧ t.groups[g] = { s.groups[g] with torn := true })

/-- A group after a write of its arm word (R79 to R82): ARM, DISARM or DISCARD with all four bytes enabled, otherwise nothing.
-/
def armedGroup (data : Word) (be : Mask) (x : Group) : Group :=
  if be ≠ 0xF#4 then x
  else
    match data.toNat % 4 with
    | 1 =>
      if x.state = .committing then
        { x with pendingArm := some (data.toNat / 2 ^ 16 % 1024), armedFrame := data.toNat / 2 ^ 16 % 1024 }
      else { x with state := .armed, armedFrame := data.toNat / 2 ^ 16 % 1024 }
    | 2 =>
      match x.state with
      | .opened => x
      | .armed => { x with state := .opened }
      | .committing => { x with pendingArm := none }
    | 3 =>
      if x.state = .committing then { x with entryCount := 0, torn := false, pendingArm := none }
      else { x with entryCount := 0, torn := false, state := .opened }
    | _ => x

/-- The staging list after a write of group g's arm word: DISCARD alone removes the entries of the round it gathers (R81, R82).
-/
def armedList (g : GroupId) (data : Word) (be : Mask) (s : State) : List Staged :=
  if be = 0xF#4 ∧ data.toNat % 4 = 3 then
    s.staged.filter fun e => decide (¬ (e.group = g ∧ (e.next = true ∨ s.groups[g].state ≠ .committing)))
  else s.staged

/-- The word of a request passes to a place in memory of this kind (R21, R23). -/
def passesTo (kind : Nat → Bool) (p : Placed) : Bool :=
  match p.dest with
  | .mem a => decide (p.outcome = .pass) && kind a
  | _ => false

/-- The access faults of a WRITE whose region words find no control right and whose index words find queues in WAITING or
OPENING: the window unit's one, one CONTROL fault for its region words, one for each index word (R25, R26, R48, R190). -/
def burstFaults (s : State) (ps : List Placed) : Nat :=
  (if worst ps = .pass then 0 else 1) + (if ps.any (passesTo (inRegion s)) then 1 else 0) +
    (ps.filter (passesTo fun a => !inRegion s a && (indexWord s a).isSome)).length

/-- The words of a transaction share no byte with one another. -/
def WordsApart (ws : List WriteWord) : Prop := ws.Pairwise fun v w => v.addr + 4 ≤ w.addr ∨ w.addr + 4 ≤ v.addr

/-- A word's bytes in memory `t` after a transaction upon memory `s` that no other word of it touches: the enabled bytes hold
the word, least significant byte lowest, the others what they held (R33). -/
def HoldsWord (s t : State) (w : WriteWord) : Prop :=
  ∀ k, k < 4 → readByte t.mem (w.addr + k) =
    if w.mask.getLsbD k then BitVec.ofNat 8 (w.data.toNat / 2 ^ (8 * k)) else readByte s.mem (w.addr + k)

/-! ### Level points (R161, R162) -/

/-- What an enabled level point of this record becomes when its condition becomes present (R161, R162). -/
def presentPoint (c : PointCfg) (x : Point) : Point :=
  match x.state with
  | .clear =>
    if c.raiseDebounce = 0 then { x with state := .raised, acked := false, count := min 65535 (x.count + 1), timer := none }
    else { x with state := .rising, timer := some c.raiseDebounce }
  | .rising => x
  | .raised => x
  | .falling => { x with state := .raised, timer := none }

/-- What it becomes when its condition becomes absent, `latched` saying whether it is latched (R161, R162). -/
def absentPoint (c : PointCfg) (latched : Bool) (x : Point) : Point :=
  match x.state with
  | .clear => x
  | .rising => { x with state := .clear, timer := none }
  | .raised =>
    if latched = true ∧ x.acked = false then x
    else if c.clearDebounce = 0 then { x with state := .clear, acked := false, timer := none }
    else { x with state := .falling, timer := some c.clearDebounce }
  | .falling => x

/-- What a point becomes when its condition record takes this level and is judged; a disabled one takes the record alone (R159,
R161, R162). -/
def judgedLevel (c : PointCfg) (latched level : Bool) (x : Point) : Point :=
  if c.enable = false then { x with cond := level }
  else if level then presentPoint c { x with cond := true } else absentPoint c latched { x with cond := false }

/-- What a level point becomes when its source hands its condition: a condition that has not changed does nothing (R158). -/
def handedLevel (c : PointCfg) (level : Bool) (x : Point) : Point :=
  if x.cond = level then x else judgedLevel c c.latched level x

/-- Level point number k in `t` is what its source makes of it in `s` by handing this condition (R158, R161, R162). -/
def Handed (s t : State) (k : Nat) (level : Bool) : Prop :=
  ∀ p : PointId, p.val = k → t.points[p] = handedLevel s.cfg.points[p] level s.points[p]

/-! ### Changes of a slot's swap state, one after the other at one event -/

/-- A change of swap state, with the cause its SWAP notice carries (R146). -/
abbrev SwapChange := SwapState × Reason

/-- The draws committed to the slots beside n (R150). -/
def drawsBeside (s : State) (n : SlotId) : Nat := ((List.finRange 12).map fun m => if m = n then 0 else s.adm[m].draw).sum

/-- A slot n that has come to SEATED or OFF(SHED), the only candidate, with this power request and with `own` watts of its own
still committed, is admitted at the event's end: it is ready for power, no other slot ramps, and its draw fits (R133, R152). -/
def mayPower (s : State) (n : SlotId) (request : Bool) (own : Nat) : Bool :=
  decide (s.swaps[n].latchClosed = true ∧ s.startUp = none ∧
    (s.cfg.slots[n].policy = .auto ∨ s.cfg.slots[n].policy = .manual ∧ request = true) ∧
    (∀ m : SlotId, m ≠ n → s.swaps[m].state ≠ .powering) ∧
    drawsBeside s n + own + s.cfg.slots[n].draw ≤ budgetInForce s)

/-- What follows from the entry of slot n to SEATED, that entry first (R133, R134). -/
def changesFromSeated (s : State) (n : SlotId) (request : Bool) (own : Nat) : List SwapChange :=
  (.seated, .noReason) ::
    if s.cfg.slots[n].policy = .disabled then [(.off, .policy)]
    else if mayPower s n request own then [(.powering, .noReason)] else []

/-- What follows from the entry of slot n to OFF, that entry first: its release is judged there (R141), and from OFF(SHED) it
may be admitted again (R153). -/
def changesFromOff (s : State) (n : SlotId) (cause : Reason) : List SwapChange :=
  (.off, cause) ::
    if (cause = .latch ∧ s.swaps[n].latchClosed = true) ∨ (cause = .policy ∧ s.cfg.slots[n].policy ≠ .disabled) then
      changesFromSeated s n false 0
    else if cause = .shed ∧ mayPower s n s.swaps[n].powerRequest 0 then [(.seated, .noReason), (.powering, .noReason)]
    else []

/-- What follows from the entry of slot n to FENCED, that entry first: with a power-down delay of 0 it passes on to OFF
(R139). -/
def changesFromFenced (s : State) (n : SlotId) (cause : Reason) : List SwapChange :=
  (.fenced, cause) :: if s.cfg.powerDownDelay = 0 then changesFromOff s n cause else []

/-- What follows from the entry of slot n to QUIESCING, that entry first: with a drain timeout of 0 it passes on to FENCED
(R137). -/
def changesFromQuiescing (s : State) (n : SlotId) (cause : Reason) : List SwapChange :=
  (.quiescing, cause) :: if s.cfg.drainTimeout = 0 then changesFromFenced s n cause else []

/-- The state timer that runs once slot n has entered a state (R132). -/
def enteredTimer (s : State) : SwapState → Timer
  | .powering => some s.cfg.rampTimeout
  | .linking => some s.cfg.linkTimeout
  | .quiescing => some s.cfg.drainTimeout
  | .fenced => some s.cfg.powerDownDelay
  | .faulted => some 1000
  | _ => none

/-- Whether a change clears the power request (R130). -/
def clearsRequest (c : SwapChange) : Bool :=
  decide (c.1 = .empty ∨ c.1 = .lockedOut ∨ c = (.off, .latch) ∨ c = (.off, .command) ∨ c = (.off, .policy))

/-- Slot m's list `l` after these changes of slot n, which stands in `before` ahead of the first of them (R53, R64, R70, R146).
-/
def changesTold (s : State) (n : SlotId) (m : SlotId) : SwapState → List SwapChange → NoticeList → NoticeList
  | _, [], l => l
  | before, c :: rest, l =>
    changesTold s n m c.1 rest
      (if liveState before = true ∧ liveState c.1 = false then
        if m = n then { entries := [], overflow := false } else swapTold s n c.1 c.2 m (detachTold s n m l)
      else swapTold s n c.1 c.2 m l)

/-- `t` is what these changes of slot n, none to ACTIVE, EMPTY or FAULTED, make of the slots, the draws, the queues and the
notice lists of `s`: the slot stands in the last of them, its outputs by that state, its power request cleared on the way where
a state clears it (R129, R130, R132); its draw is committed in POWERING and cleared on the way through FENCED and OFF (R134,
R138, R139, R140); no other slot changes; point n is handed the fault condition of each state, and point 12 + n an absent one
where the link goes off (R14, R144); its OPEN and OPENING queues are detached once it is live no more (R53); and with no slot
subscribed to alarms the lists take the SWAP notices (R64, R146). -/
def Changed (s t : State) (n : SlotId) (cs : List SwapChange) : Prop :=
  (∀ st cause, cs.getLast? = some (st, cause) →
    t.swaps[n] = { s.swaps[n] with state := st, reason := cause, stateTimer := enteredTimer s st,
                                   realign := if liveState st then s.swaps[n].realign else none,
                                   powerRequest := s.swaps[n].powerRequest && !cs.any clearsRequest,
                                   pwrEn := powered st, linkEnable := linkEnabled st, readyLit := readyLit st } ∧
    t.adm[n] =
      (if st = .powering then { draw := s.cfg.slots[n].draw, shed := false }
       else if ∃ c ∈ cs, c.1 = .off ∨ c.1 = .fenced then { draw := 0, shed := false }
       else s.adm[n]) ∧
    (linkEnabled s.swaps[n].state = true → linkEnabled st = false →
      t.links[n].state = .off ∧ Handed s t (12 + n.val) false) ∧
    (∀ q : QueueId, t.queues[q] = if liveState st then s.queues[q] else queueAfter s n q)) ∧
  (∀ m : SlotId, m ≠ n → t.swaps[m] = s.swaps[m] ∧ t.adm[m] = s.adm[m]) ∧
  (∀ p : PointId, p.val = n.val → t.points[p] =
    cs.foldl (fun x c => handedLevel s.cfg.points[p] (decide (c.1 = .faulted ∨ c.1 = .lockedOut)) x) s.points[p]) ∧
  (NoAlarmSub s → ∀ m : SlotId, t.lists[m] = changesTold s n m s.swaps[n].state cs s.lists[m])

/-- Slot n's record once a tick's sample of its lines is judged, PRESENT steady and the latch debounced to the level sampled,
ahead of what the latch does (R127, R128). -/
def latchSampled (s : State) (n : SlotId) (lines : Lines) : State :=
  { s with swaps := (s.swaps.set n
      { s.swaps[n] with sample := lines, sampleDue := false, presentCount := 0, latchClosed := lines.latch, latchCount := 0,
                        goodCount := if lines.pgood then min 10 (s.swaps[n].goodCount + 1) else 0,
                        badCount := if lines.pgood then 0 else min 10 (s.swaps[n].badCount + 1) }) }

/-- Slot n with its power request as a slot command leaves it, ahead of what else the command does (R130). -/
def withRequest (s : State) (n : SlotId) (b : Bool) : State :=
  { s with swaps := (s.swaps.set n { s.swaps[n] with powerRequest := b }) }

/-! ### Events and acknowledgements (R163, R164, R183) -/

/-- The point raised by an event (R163). -/
def raisedPoint (x : Point) : Point := { x with state := .raised, acked := false, count := min 65535 (x.count + 1), timer := none }

/-- A point after k events of it at one command: raised where it is enabled, its raise count grown by k (R163). -/
def hitPoint (enable : Bool) (k : Nat) (x : Point) : Point :=
  if enable = true ∧ 0 < k then { x with state := .raised, acked := false, count := min 65535 (x.count + k), timer := none }
  else x

/-- `t` has the points of `s` after k events of event point p, but for points 55 and 57, whose events a full list or log adds
(R66, R183). An event of a point in RISING is left out: R163 names none (log entry 20). -/
def PointHit (s t : State) (p : PointId) (k : Nat) : Prop :=
  (s.points[p].state ≠ .rising → t.points[p] = hitPoint s.cfg.points[p].enable k s.points[p]) ∧
  ∀ q : PointId, q ≠ p → q ≠ 55 → q ≠ 57 → t.points[q] = s.points[q]

/-- A millisecond timer once the divider's tick, if there is one, has been counted; at 0 its expiry is due (R94). -/
def counted (tick : Bool) (x : Timer) : Timer :=
  match tick, x with
  | true, some (k + 1) => some k
  | _, _ => x

/-- The timebase when no reference is active any more (R113, R114): out of LOCKED into HOLDOVER, or through it to FREE with a
limit of 0; out of ACQUIRE into FREE. -/
def leftAlone (limit : Nat) (t : Timebase) : Timebase :=
  match t.loop with
  | .locked =>
    { t with active := none, prop := 0, applied := t.freq, good := 0, holdCount := 0,
             loop := if limit = 0 then .free else .holdover, holdTimer := if limit = 0 then none else some 1000 }
  | .acquire => { t with active := none, prop := 0, applied := t.freq, good := 0, loop := .free }
  | .free => { t with active := none }
  | .holdover => { t with active := none }

/-- The phase error e of a capture's ns part against a cable delay (R104): m is their difference, with 10^9 added where it is
negative, and e is m below 500,000,000 and m − 10^9 from there on. -/
def IsPhaseError (ns delay : Nat) (e : Int) : Prop :=
  ∃ m : Int, m = (ns : Int) - (delay : Int) + (if ns < delay then 1000000000 else 0) ∧
    e = if m < 500000000 then m else m - 1000000000

/-- `q` is x divided by 2^k, rounded to the nearest integer with halves away from zero (R97). -/
def IsRounded (x : Int) (k : Nat) (q : Int) : Prop :=
  2 * |q * 2 ^ k - x| ≤ 2 ^ k ∧ (2 * |q * 2 ^ k - x| = 2 ^ k → |x| ≤ |q * 2 ^ k|)

/-- The channel a pass would start with: the lowest-numbered enabled one, if there is one (R177). -/
def LowestEnabled (c : Cfg) (first : Option ChannelId) : Prop :=
  match first with
  | some j => c.channels[j].enable = true ∧ ∀ i : ChannelId, i < j → c.channels[i].enable = false
  | none => ∀ i : ChannelId, c.channels[i].enable = false

/-- The records that ACK of a point hands the log writer (R164, R166). -/
def ackRecords (s : State) (p : PointId) : List LogDraft :=
  if s.cfg.points[p].enable = true ∧ active s.points[p] = true ∧ s.points[p].acked = false then
    changeRecord s p .ack s.points[p].count (recordValue s p) ::
      if (ackedPoint s p).state = .clear then [changeRecord s p .clear s.points[p].count (recordValue s p)] else []
  else []

/-- The log drops one of k records handed at one event: there is a log, and less room in its ring or in the record queue than
they take, with the LOST record that goes ahead of them where records have been lost (R183, R184). -/
def dropsOneOf (s : State) (k : Nat) : Bool :=
  decide (s.cfg.logCode ≠ 0 ∧ 0 < k ∧
    min (2 ^ s.cfg.logCode - index16 s.log.accept s.cfg.logRead) (128 - s.log.queue.length) <
      k + (if s.log.lost = 0 then 0 else 1))

/-! ### Ranges that may not overlap (R41, R73, R181) -/

/-- Two byte ranges, each a first byte and a length, share no byte. -/
def Apart (a la b lb : Nat) : Prop := a + la ≤ b ∨ b + lb ≤ a

/-- A range shares no byte with the control region. -/
def ClearOfRegion (s : State) (a la : Nat) : Prop := Apart a la (regionBase s) 16384

/-- It shares none with the range of a valid group beside `g`. -/
def ClearOfGroups (s : State) (g : Option GroupId) (a la : Nat) : Prop :=
  ∀ h : GroupId, some h ≠ g → s.cfg.groups[h].valid = true → Apart a la s.cfg.groups[h].base (s.cfg.groups[h].pages * 4096)

/-- It shares none with the ring of a queue beside `q` that is not CLOSED: 64 bytes and the cells (R40). -/
def ClearOfRings (s : State) (q : Option QueueId) (a la : Nat) : Prop :=
  ∀ x : QueueId, some x ≠ q → s.queues[x].state ≠ .closed →
    Apart a la s.cfg.queues[x].base (64 + 2 ^ s.cfg.queues[x].cellCount * 2 ^ s.cfg.queues[x].cellSize)

/-- It shares none with the ring of the alarm log, where there is one: 16 bytes for each record of its capacity. -/
def ClearOfLog (s : State) (a la : Nat) : Prop := s.cfg.logCode ≠ 0 → Apart a la s.cfg.logBase (2 ^ s.cfg.logCode * 16)

/-- Stage 2 of the OPEN check passes for a ring of this descriptor (R41). -/
def RingClear (s : State) (q : QueueId) (c : QueueCfg) : Prop :=
  let l := 64 + 2 ^ c.cellCount * 2 ^ c.cellSize
  ClearOfRegion s c.base l ∧ ClearOfGroups s none c.base l ∧ ClearOfRings s (some q) c.base l ∧ ClearOfLog s c.base l

/-- Group g may take this record, as far as its range goes: it is not valid, or its range lies within the memory fitted and is
clear of every other (R73). -/
def GroupClear (s : State) (g : GroupId) (c : GroupCfg) : Prop :=
  let l := c.pages * 4096
  c.valid = false ∨
    (c.base + l ≤ MemSize.bytes s.memSize ∧ ClearOfRegion s c.base l ∧ ClearOfGroups s (some g) c.base l ∧
      ClearOfRings s none c.base l ∧ ClearOfLog s c.base l)

/-- The log may have its ring here with this capacity code: there is none, or it lies within the memory fitted and is clear of
the control region, the valid groups and the rings (R181). -/
def LogClear (s : State) (base code : Nat) : Prop :=
  let l := 2 ^ code * 16
  code = 0 ∨
    (base + l ≤ MemSize.bytes s.memSize ∧ ClearOfRegion s base l ∧ ClearOfGroups s none base l ∧ ClearOfRings s none base l)

/-- The commands that end a transaction that stores: the only ones that change a byte of shared memory (R33, R45, R85, R185,
R193). -/
def storesMemory : Instr → Bool
  | .coldStartUpWriteComplete => true
  | .slotWriteComplete => true
  | .zeroingComplete => true
  | .commitTransactionComplete => true
  | .logWriteComplete => true
  | _ => false

/-- The commands that may move cabinet time, its discipline or the frame number in force (R93, R96, R106, R108, R116, R193). -/
def movesTime : Instr → Bool
  | .coldReset _ => true
  | .localOscillatorPeriod _ => true
  | .continuousFrameTick _ => true
  | .pulseEvent _ _ => true
  | _ => false

/-- The commands that write a word of the control region (R190, R191), COLD_RESET among them, which sets the copy anew (R193).
-/
def writesRegion : Instr → Bool
  | .coldReset _ => true
  | .windowTakeWrite _ => true
  | .openQueue _ _ => true
  | .closeQueue _ _ => true
  | .referenceEnableWrite _ _ _ => true
  | .referencePriorityWrite _ _ _ => true
  | .secondsLoad _ => true
  | .powerOn _ _ => true
  | .removeSlot _ _ => true
  | .clearLockout _ _ => true
  | .slotPolicyWrite _ _ _ => true
  | .slotDrawWrite _ _ _ => true
  | .shedPriorityWrite _ _ _ => true
  | .controlRightWrite _ _ _ => true
  | .budgetWrite _ _ => true
  | .ackPoint _ _ => true
  | .ackAll _ => true
  | .pointEnableWrite _ _ _ => true
  | .pointLatchedWrite _ _ _ => true
  | .pointSeverityWrite _ _ _ => true
  | .pointRelayMarksWrite _ _ _ => true
  | .pointShedTriggerWrite _ _ _ => true
  | .relayOn _ _ => true
  | .relayOff _ _ => true
  | .relayFollow _ _ => true
  | .relayConfigWrite _ _ _ _ _ => true
  | .senseModeWrite _ _ _ => true
  | .scanNow _ => true
  | .channelConfigWrite _ _ _ _ _ _ => true
  | .logConfigWrite _ _ => true
  | .logReadIndexWrite _ _ => true
  | .windowRecordWrite _ _ _ _ => true
  | .groupConfigWrite _ _ _ => true
  | .queueDescriptorWrite _ _ _ => true
  | .controlRegionWrite _ _ _ _ => true
  | .warmReset _ => true
  | _ => false

/-! ## Invariants -/

/-- Shared memory is in its canonical form. -/
def State.MemoryOk (s : State) : Prop := Memory.wf s.mem = true

/-- A window record in its ranges (R20). A record that no write has judged holds size 0. -/
def WindowCfg.InRange (w : WindowCfg) : Prop :=
  (w.size = 0 ∨ 12 ≤ w.size ∧ w.size ≤ 28) ∧ w.localBase % 4096 = 0 ∧ w.localBase < 2 ^ 32 ∧ w.physBase % 4096 = 0 ∧
    w.physBase < 2 ^ 28

/-- A queue descriptor in its ranges (R39). The watermarks may stand against each other or against the count as later writes
leave them. -/
def QueueCfg.InRange (c : QueueCfg) : Prop :=
  c.base % 64 = 0 ∧ c.base < 2 ^ 28 ∧ 4 ≤ c.cellSize ∧ c.cellSize ≤ 8 ∧ 1 ≤ c.cellCount ∧ c.cellCount ≤ 12 ∧
    c.producer < 16 ∧ c.consumer < 16 ∧ 1 ≤ c.high ∧ c.high ≤ 4096 ∧ c.low < 4096

/-- The global record's settings in their ranges (R13, R101, R105, R108, R131, R149, R178, R181, R182). -/
def Cfg.SettingsInRange (c : Cfg) : Prop :=
  c.secondsLow < 2 ^ 32 ∧ c.secondsHigh < 2 ^ 16 ∧ c.mains ≤ 4095 ∧ c.battery ≤ 4095 ∧
    1 ≤ c.linkThreshold ∧ c.linkThreshold ≤ 65535 ∧ 1 ≤ c.presentDebounce ∧ c.presentDebounce ≤ 1000 ∧
    1 ≤ c.latchDebounce ∧ c.latchDebounce ≤ 1000 ∧ 10 ≤ c.rampTimeout ∧ c.rampTimeout ≤ 5000 ∧
    100 ≤ c.linkTimeout ∧ c.linkTimeout ≤ 10000 ∧ c.drainTimeout ≤ 10000 ∧ c.powerDownDelay ≤ 5000 ∧
    1 ≤ c.retryLimit ∧ c.retryLimit ≤ 7 ∧ 100 ≤ c.gate ∧ c.gate ≤ 10000000 ∧ 1 ≤ c.missLimit ∧ c.missLimit ≤ 7 ∧
    1 ≤ c.lockCount ∧ c.lockCount ≤ 15 ∧ c.ki < 8 ∧ c.kp < 8 ∧ 100 ≤ c.stepThreshold ∧ c.stepThreshold ≤ 1000000 ∧
    10 ≤ c.lockWindow ∧ c.lockWindow ≤ 100000 ∧ c.holdoverLimit ≤ 86400 ∧ 10 ≤ c.scanInterval ∧
    c.scanInterval ≤ 10000 ∧ c.logBase % 16 = 0 ∧ c.logBase < 2 ^ 28 ∧
    (c.logCode = 0 ∨ 4 ≤ c.logCode ∧ c.logCode ≤ 12) ∧ c.logRead < 65536

/-- The control shadow's copy in its ranges, record by record (R191). -/
def Cfg.InRange (c : Cfg) : Prop :=
  (∀ n : SlotId, c.slots[n].shedPriority < 8 ∧ c.slots[n].draw < 1024) ∧ (∀ w : WindowId, c.windows[w].InRange) ∧
    (∀ q : QueueId, c.queues[q].InRange) ∧
    (∀ g : GroupId, c.groups[g].base % 4096 = 0 ∧ c.groups[g].base < 2 ^ 28 ∧ 1 ≤ c.groups[g].pages ∧
      c.groups[g].pages ≤ 256) ∧
    (∀ p : PointId, c.points[p].raiseDebounce < 65536 ∧ c.points[p].clearDebounce < 65536) ∧
    (∀ r : RefId, c.refs[r].priority < 4 ∧ c.refs[r].delay ≤ 999999) ∧
    (∀ j : ChannelId, c.channels[j].low < 1024 ∧ c.channels[j].high < 1024 ∧ c.channels[j].hysteresis < 256) ∧
    c.SettingsInRange

/-- Some slot holds the control right (R190). -/
def State.RightHeld (s : State) : Prop := ∃ n : SlotId, s.cfg.slots[n].right = true

/-- The three outputs of every slot follow its swap state, at most one slot is in POWERING, and the link of a slot is OFF
exactly without link enable and FENCED exactly in FENCED (R3, R7, R129, R147). -/
def State.OutputsFollow (s : State) : Prop :=
  (∀ n : SlotId, s.swaps[n].pwrEn = powered s.swaps[n].state ∧ s.swaps[n].linkEnable = linkEnabled s.swaps[n].state ∧
    s.swaps[n].readyLit = readyLit s.swaps[n].state) ∧
  (∀ m n : SlotId, s.swaps[m].state = .powering → s.swaps[n].state = .powering → m = n) ∧
  (∀ n : SlotId, (s.links[n].state = .off ↔ linkEnabled s.swaps[n].state = false) ∧
    (s.links[n].state = .fenced ↔ s.swaps[n].state = .fenced))

/-- The sum of the committed draws not marked for shedding lies within the budget in force (R157). -/
def State.WithinBudget (s : State) : Prop := unmarkedTotal s ≤ budgetInForce s

/-- A point that is not active is not acknowledged (R167). -/
def State.AckedActive (s : State) : Prop := ∀ p : PointId, s.points[p].acked = true → active s.points[p] = true

/-- Every relay's alarm state is what its members give by its mode, and its output follows its position and polarity
(R169, R170, R172). -/
def State.RelaysJudged (s : State) : Prop :=
  ∀ k : RelayId, s.relays[k].alarm = relayAlarm s k ∧
    s.relays[k].energised = (alarmPosition s.relays[k].force (relayAlarm s k) != s.cfg.relays[k].deenergise)

/-- A list of at most 32 entries, no two of one identity, a FRAME entry at the head alone, a RESYNC entry alone, every count
1 to 255; a set overflow mark only over a list that is not empty (R58, R59, R67, R71). -/
def NoticeList.Ok (l : NoticeList) : Prop :=
  l.entries.length ≤ 32 ∧ (l.entries.map Entry.id).Nodup ∧ (∀ e ∈ l.entries.tail, e.id ≠ .frame) ∧
    ((∃ e ∈ l.entries, e.id = .resync) → l.entries.length = 1) ∧ (∀ e ∈ l.entries, 1 ≤ e.count ∧ e.count ≤ 255) ∧
    (l.overflow = true → l.entries ≠ [])

/-- Every notice list is in that form, and the list of a slot that is not live is empty with a clear mark (R70, R71,
R148). -/
def State.ListsOk (s : State) : Prop :=
  ∀ n : SlotId, (s.lists[n]).Ok ∧ (live s n = false → s.lists[n] = NoticeList.blank)

/-- The indices of every queue are 16-bit, the occupancy of an OPEN or DETACHED queue lies within its count, and both
endpoints of an OPENING or OPEN queue are live (R44, R52, R148). -/
def State.QueuesOk (s : State) : Prop :=
  ∀ q : QueueId, s.queues[q].p < 65536 ∧ s.queues[q].c < 65536 ∧
    (s.queues[q].state = .opened ∨ s.queues[q].state = .detached →
      occupancy s.queues[q] ≤ cellsOf s.cfg.queues[q]) ∧
    (s.queues[q].state = .opening ∨ s.queues[q].state = .opened → bothLive s q = true)

/-- The staging list holds at most 256 entries, each within the range of its valid group and no arm word, and no two entries
of the same round of a group have the same address (R91). -/
def State.StagingOk (s : State) : Prop :=
  s.staged.length ≤ 256 ∧
    (∀ e ∈ s.staged, s.cfg.groups[e.group].valid = true ∧ inGroup s.cfg.groups[e.group] e.addr = true ∧
      e.addr ≠ armAddr s.cfg.groups[e.group]) ∧
    (s.staged.map fun e => (e.group, e.addr, e.next)).Nodup

/-- The ranges of R95 and R115; the active reference is R99's choice and a disabled reference is LOST; LOCKED has an active
reference, which is QUALIFIED, and in HOLDOVER no reference is qualified (R98, R99, R115). -/
def State.TimeOk (s : State) : Prop :=
  (-2000000 ≤ s.time.freq ∧ s.time.freq ≤ 2000000) ∧ (-2000000 ≤ s.time.applied ∧ s.time.applied ≤ 2000000) ∧
    s.time.ns < 1000000000 ∧ s.time.residue < 100000000000 ∧ s.time.sec < 2 ^ 48 ∧ s.time.good ≤ 15 ∧
    s.time.active = chosenRef s ∧ (∀ r : RefId, s.cfg.refs[r].enable = false → s.refs[r].qualified = false) ∧
    (s.time.loop = .locked → ∃ r : RefId, s.time.active = some r ∧ s.refs[r].qualified = true) ∧
    (s.time.loop = .holdover → ∀ r : RefId, s.refs[r].qualified = false)

/-- The frame number in force is that of cabinet time (R116). -/
def State.FrameAgrees (s : State) : Prop := s.frame = frameOf s.time.sec s.time.ns

/-- The log writer: the record queue holds at most 128 records, those accepted and not written, with the sequence numbers from
the write index on (R182, R183); the unread count lies within the capacity (R186); and a log transaction in flight carries the
head record, at its place in the ring (R182, R185). -/
def State.LogOk (s : State) : Prop :=
  s.log.accept < 65536 ∧ s.log.write < 65536 ∧ s.log.queue.length ≤ 128 ∧ s.cfg.logCode ≤ 12 ∧
    index16 s.log.accept s.log.write = s.log.queue.length ∧
    (∀ (i : Nat) (r : LogRecord), s.log.queue[i]? = some r → r.seq = (s.log.write + i) % 65536) ∧
    index16 s.log.accept s.cfg.logRead = index16 s.log.write s.cfg.logRead + s.log.queue.length ∧
    index16 s.log.accept s.cfg.logRead ≤ logCapacity s.cfg.logCode ∧
    index16 s.log.write s.cfg.logRead ≤ logCapacity s.cfg.logCode ∧
    (∀ ws, s.port.flight = some (.log ws) → ∃ r rest, s.log.queue = r :: rest ∧
      ws = wordsAt (s.cfg.logBase + r.seq % logCapacity s.cfg.logCode * 16) (recordImage r))

/-- The budget in force follows the shed-trigger points: the battery budget while one of them is active, otherwise the mains
budget (R149). -/
def State.BudgetFollows (s : State) : Prop :=
  s.onBattery = true ↔
    ∃ p : PointId, s.cfg.points[p].shedTrigger = true ∧ (s.points[p].state = .raised ∨ s.points[p].state = .falling)

/-- Every READ and WRITE in an input buffer carries 1 to 16 words (R2, R8). -/
def State.BurstsOk (s : State) : Prop :=
  ∀ (n : SlotId) (r : Request), r ∈ s.links[n].buffer →
    match r with
    | .read _ _ count => 1 ≤ count ∧ count ≤ 16
    | .write _ _ _ data => 1 ≤ data.length ∧ data.length ≤ 16
    | .readyToFence => True

/-- A slot that is neither ACTIVE nor QUIESCING has a link that is not OPEN, no frames in its input buffer, no outstanding
reads, no notices in its list, no staging entry with it in its origin set, and is not an endpoint of any OPEN queue (R148). -/
def State.IdleSlotsClear (s : State) : Prop :=
  ∀ n : SlotId, live s n = false →
    s.links[n].state ≠ .opened ∧ s.links[n].buffer = [] ∧ s.links[n].reads = [] ∧ s.lists[n].entries = [] ∧ s.lists[n].overflow = false ∧
      (∀ e ∈ s.staged, e.origin.getLsbD n.val = false) ∧
      (∀ q : QueueId, endpoint s.cfg.queues[q] n = true → s.queues[q].state ≠ .opened)

/-- The ring of every queue that is not CLOSED, the range of every valid group and the ring of a configured log lie within the
memory fitted, and share no byte with one another or with the control region (R42, R73, R181). -/
def State.RangesApart (s : State) : Prop :=
  (∀ q : QueueId, s.queues[q].state ≠ .closed →
    (let b := s.cfg.queues[q].base
     let l := ringBytes s.cfg.queues[q]
     b + l ≤ MemSize.bytes s.memSize ∧ Apart b l (regionBase s) 16384 ∧
      (∀ x : QueueId, x ≠ q → s.queues[x].state ≠ .closed → Apart b l s.cfg.queues[x].base (ringBytes s.cfg.queues[x])) ∧
      (∀ g : GroupId, s.cfg.groups[g].valid = true → Apart b l s.cfg.groups[g].base (groupBytes s.cfg.groups[g])) ∧
      (s.cfg.logCode ≠ 0 → Apart b l s.cfg.logBase (logCapacity s.cfg.logCode * 16)))) ∧
  (∀ g : GroupId, s.cfg.groups[g].valid = true →
    (let b := s.cfg.groups[g].base
     let l := groupBytes s.cfg.groups[g]
     b + l ≤ MemSize.bytes s.memSize ∧ Apart b l (regionBase s) 16384 ∧
      (∀ h : GroupId, h ≠ g → s.cfg.groups[h].valid = true → Apart b l s.cfg.groups[h].base (groupBytes s.cfg.groups[h])) ∧
      (s.cfg.logCode ≠ 0 → Apart b l s.cfg.logBase (logCapacity s.cfg.logCode * 16)))) ∧
  (s.cfg.logCode ≠ 0 →
    s.cfg.logBase + logCapacity s.cfg.logCode * 16 ≤ MemSize.bytes s.memSize ∧
      Apart s.cfg.logBase (logCapacity s.cfg.logCode * 16) (regionBase s) 16384)

/-- A word of a slot's write transaction is a region word, written whole at its place, or lies outside the region (R189, R191).
-/
def WriteWord.Placed (s : State) (w : WriteWord) : Prop :=
  if w.region then (∃ idx : RegionIdx, w.addr = regionBase s + 4 * idx.val) ∧ w.mask = Mask.all
  else Apart w.addr 4 (regionBase s) 16384

/-- The transactions at the memory port write the region by region words of slots alone (R189): every other word that waits or
is in flight lies outside it. The words of the staging list, and those that wait for it with a slot's transaction, lie at word
addresses. -/
def State.PortPlaced (s : State) : Prop :=
  (∀ (n : SlotId) (ws : List WriteWord),
    (∃ kept, s.port.waiting[n] = some (.write ws kept)) ∨ s.port.flight = some (.slotWrite n ws) → ∀ w ∈ ws, w.Placed s) ∧
  (∀ ws : List WriteWord, s.port.commit = some ws ∨ s.port.flight = some (.commit ws) ∨ s.port.flight = some (.log ws) →
    ∀ w ∈ ws, Apart w.addr 4 (regionBase s) 16384) ∧
  (∀ (q : QueueId) (base : Nat), s.port.flight = some (.zeroing q base) → Apart base 8 (regionBase s) 16384) ∧
  (∀ q : QueueId, s.port.zeroing = some q → s.queues[q].state ≠ .closed) ∧ (∀ e ∈ s.staged, e.addr % 4 = 0) ∧
  (∀ (n : SlotId) (ws : List WriteWord) (kept : List StagingWord), s.port.waiting[n] = some (.write ws kept) →
    ∀ (g : GroupId) (a : Nat) (d : Word) (be : Mask), .staged g a d be ∈ kept → a % 4 = 0)

/-- A slot's write of region word idx waits for its grant. -/
def State.RegionWaits (s : State) (idx : RegionIdx) : Prop :=
  ∃ (n : SlotId) (ws : List WriteWord) (kept : List StagingWord) (w : WriteWord),
    s.port.waiting[n] = some (.write ws kept) ∧ w ∈ ws ∧ w.region = true ∧ w.addr = regionBase s + 4 * idx.val

/-- Every region word in memory equals the copy whenever no write to it waits or is in flight, and a word in flight carries the
copy unless a later write of it waits (R191); during cold start-up this holds of the words written so far (R193). -/
def State.RegionAgrees (s : State) : Prop :=
  (∀ k, s.startUp = some k → k < 256) ∧
  (∀ (n : SlotId) (ws : List WriteWord) (w : WriteWord) (idx : RegionIdx), s.port.flight = some (.slotWrite n ws) → w ∈ ws →
    w.region = true → w.addr = regionBase s + 4 * idx.val → w.data = image s.cfg idx ∨ s.RegionWaits idx) ∧
  (∀ idx : RegionIdx, (∀ k, s.startUp = some k → idx.val < 16 * k) → ¬ s.RegionWaits idx →
    (∀ (n : SlotId) (ws : List WriteWord) (w : WriteWord), s.port.flight = some (.slotWrite n ws) → w ∈ ws →
      ¬ (w.region = true ∧ w.addr = regionBase s + 4 * idx.val)) →
    ∀ b : Nat, b < 4 →
      readByte s.mem (regionBase s + 4 * idx.val + b) = BitVec.ofNat 8 ((image s.cfg idx).toNat / 2 ^ (8 * b)))

/-- The groups that are COMMITTING are those whose rounds wait, each once (R84, R86); and the commit engine has a transaction
at the port only while it serves the first of them, one at a time, of words that lie whole in that group's valid range (R33,
R85). -/
def State.RoundsOk (s : State) : Prop :=
  s.rounds.Nodup ∧ (∀ g : GroupId, g ∈ s.rounds ↔ s.groups[g].state = .committing) ∧
    (∀ ws : List WriteWord, s.port.commit = some ws ∨ s.port.flight = some (.commit ws) →
      s.serving = true ∧ ∃ g later, s.rounds = g :: later ∧ s.cfg.groups[g].valid = true ∧
        ∀ w ∈ ws, w.addr % 4 = 0 ∧ s.cfg.groups[g].base ≤ w.addr ∧
          w.addr + 4 ≤ s.cfg.groups[g].base + s.cfg.groups[g].pages * 4096) ∧
    (∀ ws vs : List WriteWord, s.port.commit = some ws → s.port.flight ≠ some (.commit vs))

/-- A group's entry count is the number of its entries of the round now gathering (R74, R83, R90); only a COMMITTING group has
entries of a next round (R74, R87), and its round in flight has at most as many left as its size (R84, R85). -/
def State.CountsAgree (s : State) : Prop :=
  ∀ g : GroupId,
    s.groups[g].entryCount =
      (s.staged.filter fun e => decide (e.group = g ∧ (e.next = true ↔ s.groups[g].state = .committing))).length ∧
    ((∃ e ∈ s.staged, e.group = g ∧ e.next = true) → s.groups[g].state = .committing) ∧
    (s.groups[g].state = .committing →
      (s.staged.filter fun e => decide (e.group = g ∧ e.next = false)).length ≤ s.groups[g].roundSize)

/-- Slot n's write of the word at `a` waits for its grant, as `w`. -/
def State.WordWaits (s : State) (n : SlotId) (a : Nat) (w : WriteWord) : Prop :=
  ∃ (ws : List WriteWord) (kept : List StagingWord), s.port.waiting[n] = some (.write ws kept) ∧ w ∈ ws ∧ w.addr = a

/-- A slot's write of the word at `a` is in flight, as `w`. -/
def State.WordFlies (s : State) (a : Nat) (w : WriteWord) : Prop :=
  ∃ (n : SlotId) (ws : List WriteWord), s.port.flight = some (.slotWrite n ws) ∧ w ∈ ws ∧ w.addr = a

/-- Queue q is judged by its indices: OPEN or DETACHED (R54). -/
def State.Tracked (s : State) (q : QueueId) : Prop := s.queues[q].state = .opened ∨ s.queues[q].state = .detached

/-- The index word at `a`, of a tracked queue, with the tracked index `v` and the slot number that writes it: in memory it
equals `v` whenever no slot write of it waits or is in flight (R52); one that waits is that slot's and carries `v` whole (R37,
R47); and one in flight carries `v` too, unless a later one waits. -/
def State.IndexAgrees (s : State) (a v owner : Nat) : Prop :=
  (∀ (n : SlotId) (w : WriteWord), s.WordWaits n a w →
    n.val = owner ∧ w = { addr := a, data := BitVec.ofNat 32 v, mask := Mask.all, region := false }) ∧
  (∀ w : WriteWord, s.WordFlies a w →
    w = { addr := a, data := BitVec.ofNat 32 v, mask := Mask.all, region := false } ∨ ∃ n x, s.WordWaits n a x) ∧
  ((∀ n w, ¬ s.WordWaits n a w) → (∀ w, ¬ s.WordFlies a w) →
    ∀ b : Nat, b < 4 → readByte s.mem (a + b) = BitVec.ofNat 8 (v / 2 ^ (8 * b)))

/-- The two index words in shared memory equal the tracked p and c of every OPEN or DETACHED queue whenever no write to them
waits or is in flight (R52), with what keeps it: slots write whole words; the zeroing that waits is of an OPENING queue that
offered it, with none in flight (R45); one in flight is of no tracked queue's words, and of its own ring's as long as that
OPENING lasts (R46); and no slot write of a queue's index words is at the port once its zeroing has been offered (R45). -/
def State.IndexesAgree (s : State) : Prop :=
  (∀ (n : SlotId) (ws : List WriteWord),
    (∃ kept, s.port.waiting[n] = some (.write ws kept)) ∨ s.port.flight = some (.slotWrite n ws) → ∀ w ∈ ws, w.addr % 4 = 0) ∧
  (∀ q : QueueId, s.port.zeroing = some q →
    s.queues[q].state = .opening ∧ s.queues[q].offered = true ∧ ∀ x b, s.port.flight ≠ some (.zeroing x b)) ∧
  (∀ (q : QueueId) (b : Nat), s.port.flight = some (.zeroing q b) →
    b % 64 = 0 ∧ (∀ x : QueueId, s.Tracked x → s.cfg.queues[x].base ≠ b) ∧
      (s.queues[q].state = .opening → s.queues[q].offered = true → s.cfg.queues[q].base = b)) ∧
  (∀ q : QueueId, s.queues[q].state = .opening → s.queues[q].offered = true →
    ∀ a : Nat, a = s.cfg.queues[q].base ∨ a = s.cfg.queues[q].base + 4 →
      (∀ n w, ¬ s.WordWaits n a w) ∧ ∀ w, ¬ s.WordFlies a w) ∧
  (∀ q : QueueId, s.Tracked q →
    s.IndexAgrees s.cfg.queues[q].base s.queues[q].p s.cfg.queues[q].producer ∧
      s.IndexAgrees (s.cfg.queues[q].base + 4) s.queues[q].c s.cfg.queues[q].consumer)

/-- A sound state. -/
def State.Sound (s : State) : Prop :=
  s.MemoryOk ∧ s.cfg.InRange ∧ s.RightHeld ∧ s.OutputsFollow ∧ s.WithinBudget ∧ s.AckedActive ∧ s.RelaysJudged ∧
    s.ListsOk ∧ s.QueuesOk ∧ s.StagingOk ∧ s.TimeOk ∧ s.FrameAgrees ∧ s.LogOk ∧ s.BudgetFollows ∧ s.BurstsOk ∧
    s.IdleSlotsClear ∧ s.RangesApart ∧ s.PortPlaced ∧ s.RegionAgrees ∧ s.RoundsOk ∧ s.CountsAgree ∧ s.IndexesAgree

end Sys2Proof.Machine
end

