-- ==== Sys2Proof/Certificates/Slice0/Obligations.lean ====
section
/-! DEFINITION. The statements for the provers, chapter by chapter: the invariants that every step keeps, what each command
does and leaves alone, and how frames read. -/

open Sys2Proof Sys2Proof.Machine

/-! ## Steps, resets and invariants -/

/-- A step runs the command at the front of the queue with the rest behind it; with none waiting the block idles, which is the
model's choice (log entry 7). Every command answers a next state, in every state, and none touches the commands that wait behind
it. -/
def Obligations.StepRunsTheFrontCommand : Prop :=
  ((∀ (c : Instr) (rest : List Instr) (s : State), step { s with pending := c :: rest } = exec c { s with pending := rest }) ∧
     ∀ s : State, s.pending = [] → step s = .next s) ∧
  (∀ (c : Instr) (s : State), ∃ t, exec c s = .next t ∧ t.pending = s.pending)

/-- The state after reset is sound. -/
def Obligations.ResetIsSound : Prop := State.Sound State.reset

/-- COLD_RESET in any state, whatever the straps (R3, R22, R34, R40, R59, R72, R110, R116, R125, R127, R160, R189, R193). That
shared memory stays as it reads and that the transaction in flight is given up are the model's choice (log entry 29). -/
def Obligations.ColdResetValues : Prop :=
  ∀ (straps : Straps) (s : State), ∃ t, exec (.coldReset straps) s = .next t ∧
    t.memSize = straps.size ∧ t.regionTop = straps.regionTop ∧ t.startUp = some 0 ∧ t.warmPending = false ∧
    t.cfg = Cfg.cold straps.size ∧ t.mem = s.mem ∧ t.pending = s.pending ∧
    (∀ n : SlotId, t.links[n].state = .off ∧ t.links[n].delay = none ∧ t.links[n].echoSeq = 0#16 ∧
      t.access[n].count = 0 ∧ t.access[n].last = none ∧ t.lists[n].entries = [] ∧ t.lists[n].overflow = false ∧
      t.latches[n] = { sec := 0, frame := 0, loop := .free } ∧ t.swaps[n].state = .empty ∧
      t.swaps[n].present = false ∧ t.swaps[n].latchClosed = false ∧ t.swaps[n].retry = 0 ∧
      t.swaps[n].powerRequest = false ∧ t.swaps[n].pwrEn = false ∧ t.swaps[n].linkEnable = false ∧
      t.swaps[n].readyLit = false ∧ t.adm[n].draw = 0 ∧ t.adm[n].shed = false) ∧
    t.port.flight = none ∧ t.port.last = 11 ∧ (∀ n : SlotId, t.port.waiting[n] = none) ∧
    (∀ q : QueueId, t.queues[q].state = .closed ∧ t.queues[q].p = 0 ∧ t.queues[q].c = 0 ∧ t.queues[q].overruns = 0 ∧
      t.queues[q].result = .noResult) ∧
    (∀ g : GroupId, t.groups[g].state = .opened ∧ t.groups[g].armedFrame = 0 ∧ t.groups[g].entryCount = 0) ∧
    t.staged = [] ∧ t.time.sec = 0 ∧ t.time.ns = 0 ∧ t.time.residue = 0 ∧ t.time.divider = 0 ∧ t.time.freq = 0 ∧
    t.time.applied = 0 ∧ t.time.loop = .free ∧ t.time.active = none ∧ t.time.load = none ∧ t.frame = 0 ∧
    (∀ r : RefId, t.refs[r].qualified = false ∧ t.refs[r].capture = none ∧ t.refs[r].misses = 0) ∧
    (∀ p : PointId, t.points[p].state = (if p = 48 then .raised else .clear) ∧
      t.points[p].count = (if p = 48 then 1 else 0) ∧ t.points[p].acked = false) ∧
    (∀ k : RelayId, t.relays[k].force = .follow ∧ t.relays[k].energised = false) ∧ t.onBattery = false ∧
    t.log.accept = 0 ∧ t.log.write = 0 ∧ t.log.lost = 0 ∧ t.log.queue = [] ∧ t.contacts = straps.contacts ∧
    (∀ j : ChannelId, t.channels[j].result = none ∧ t.channels[j].high = false ∧ t.channels[j].low = false) ∧
    t.scan.running = false ∧ t.scan.skipped = 0

/-- Shared memory keeps its canonical form through every step. The control region in memory agrees with the copy (R191): a
region word for which no slot write waits or is in flight equals the copy, during cold start-up as far as the start-up has
written; the transactions at the port other than slots' region words lie outside the region (R42, R73, R181, R189). -/
def Obligations.MemoryStaysCanonical : Prop :=
  (State.reset.MemoryOk ∧ ∀ s t : State, s.MemoryOk → step s = .next t → t.MemoryOk) ∧
  ((State.reset.PortPlaced ∧ State.reset.RegionAgrees) ∧
    ∀ s t : State, s.MemoryOk → s.cfg.InRange → s.RangesApart → s.StagingOk → s.LogOk → s.PortPlaced → s.RegionAgrees →
      step s = .next t → t.PortPlaced ∧ t.RegionAgrees)

/-- Every field of the control shadow's copy stays in its range through every step (R191). At least one slot holds the control
right after every step (R190). -/
def Obligations.ConfigStaysInRange : Prop :=
  (State.reset.cfg.InRange ∧ ∀ s t : State, s.cfg.InRange → step s = .next t → t.cfg.InRange) ∧
  (State.reset.RightHeld ∧ ∀ s t : State, s.RightHeld → step s = .next t → t.RightHeld)

/-- The outputs follow the swap state, at most one slot is in POWERING, and the links follow link enable and the fence, through
every step (R129, R147). -/
def Obligations.OutputsFollowSwapState : Prop :=
  State.reset.OutputsFollow ∧ ∀ s t : State, s.OutputsFollow → step s = .next t → t.OutputsFollow

/-- The unmarked committed draws stay within the budget in force through every step (R157). The budget in force is the battery
budget exactly while a point with the shed-trigger mark is RAISED or FALLING (R149). -/
def Obligations.DrawsStayWithinBudget : Prop :=
  (State.reset.WithinBudget ∧ ∀ s t : State, s.WithinBudget → step s = .next t → t.WithinBudget) ∧
  (State.reset.BudgetFollows ∧ ∀ s t : State, s.BudgetFollows → step s = .next t → t.BudgetFollows)

/-- A point that is not active is never acknowledged (R167). -/
def Obligations.AckedOnlyWhileActive : Prop :=
  State.reset.AckedActive ∧ ∀ s t : State, s.AckedActive → step s = .next t → t.AckedActive

/-- Every relay's alarm state and output stay those its members, mode, force state and polarity give (R169, R170, R172). -/
def Obligations.RelaysStayJudged : Prop :=
  State.reset.RelaysJudged ∧ ∀ s t : State, s.RelaysJudged → step s = .next t → t.RelaysJudged

/-- Every notice list keeps its form, and that of a slot that is not live is empty (R70, R71). A slot that is not live has no
frames, reads, notices or staging entries of its own and is no endpoint of an OPEN queue (R148), given that the links follow
the swap states and that both endpoints of an OPEN queue are live. -/
def Obligations.NoticeListsKeepTheirForm : Prop :=
  (State.reset.ListsOk ∧ ∀ s t : State, s.ListsOk → step s = .next t → t.ListsOk) ∧
  (State.reset.IdleSlotsClear ∧
    ∀ s t : State, s.OutputsFollow → s.QueuesOk → s.IdleSlotsClear → step s = .next t → t.IdleSlotsClear)

/-- Occupancies stay within the count, and an OPENING or OPEN queue has both endpoints live (R52, R148). The rings of the
queues that are not CLOSED, the ranges of the valid groups and the log ring lie within the memory and share no byte with one
another or with the control region (R42, R73, R181). The two index words of an OPEN or DETACHED queue in shared memory equal
its tracked p and c whenever no slot write of them waits at the port or is in flight (R52), given the invariants of the memory,
the ranges, the log and the commit rounds. -/
def Obligations.QueuesStayInBounds : Prop :=
  (State.reset.QueuesOk ∧ ∀ s t : State, s.QueuesOk → step s = .next t → t.QueuesOk) ∧
  (State.reset.RangesApart ∧ ∀ s t : State, s.cfg.InRange → s.RangesApart → step s = .next t → t.RangesApart) ∧
  (State.reset.IndexesAgree ∧
    ∀ s t : State, s.MemoryOk → s.cfg.InRange → s.RangesApart → s.QueuesOk → s.LogOk → s.PortPlaced → s.RegionAgrees →
      s.RoundsOk → s.IndexesAgree → step s = .next t → t.IndexesAgree)

/-- The staging list stays within 256 entries, each in the range of its valid group and none its arm word, no two of one round
of a group at one address (R91), given the ranges of the configuration and that every READ and WRITE in an input buffer carries
1 to 16 words, which is kept as well (R2, R8). The COMMITTING groups are those whose rounds wait, and the transaction the
commit engine has at the port is one of the first of them, of words within its range (R33, R84, R85, R86). A group's entry
count is the number of its entries of the round now gathering, only a COMMITTING group has entries of a next round, and no more
entries of a round in flight are left than its size (R74, R83, R84, R87, R90). -/
def Obligations.StagingStaysInBounds : Prop :=
  (State.reset.BurstsOk ∧ ∀ s t : State, s.BurstsOk → step s = .next t → t.BurstsOk) ∧
  (State.reset.StagingOk ∧
    ∀ s t : State, s.cfg.InRange → s.BurstsOk → s.StagingOk → step s = .next t → t.StagingOk) ∧
  (State.reset.RoundsOk ∧
    ∀ s t : State, s.cfg.InRange → s.StagingOk → s.PortPlaced → s.RoundsOk → step s = .next t → t.RoundsOk) ∧
  (State.reset.CountsAgree ∧ ∀ s t : State, s.RoundsOk → s.CountsAgree → step s = .next t → t.CountsAgree)

/-- The timebase keeps its ranges, and its loop state agrees with the references (R99, R115). The frame number in force and
cabinet time always agree (R116). -/
def Obligations.TimebaseStaysInBounds : Prop :=
  (State.reset.TimeOk ∧ ∀ s t : State, s.TimeOk → step s = .next t → t.TimeOk) ∧
  (State.reset.FrameAgrees ∧ ∀ s t : State, s.FrameAgrees → step s = .next t → t.FrameAgrees)

/-- The record queue holds the records accepted and not written, at most 128, with the consecutive sequence numbers from the
write index on (R182, R183, R186); the unread count stays within the capacity (R186); and a log transaction in flight writes
the queue's head at its place in the ring (R182, R185). -/
def Obligations.LogQueueAgrees : Prop :=
  State.reset.LogOk ∧ ∀ s t : State, s.LogOk → step s = .next t → t.LogOk

/-- Shared memory changes at the completion of a storing transaction alone: every other command leaves every byte of it as it
reads. That COLD_RESET does is the model's choice (log entry 29). -/
def Obligations.MemoryChangesAtCompletions : Prop :=
  ∀ (c : Instr) (s t : State), storesMemory c = false → exec c s = .next t → t.mem = s.mem

/-- The control shadow's copy changes at writes of the control region and at COLD_RESET alone; memory's size and the place of
the region change at COLD_RESET alone; cabinet time, its residue and divider, the frequency word F, the last phase error and
the frame number in force change at oscillator periods, pulses and COLD_RESET alone; a contact's sample changes at a contact
sample or COLD_RESET alone, and a channel's result at a conversion or COLD_RESET alone. -/
def Obligations.WhatCommandsLeaveAlone : Prop :=
  ∀ (c : Instr) (s t : State), exec c s = .next t →
    (writesRegion c = false → t.cfg = s.cfg) ∧
    ((∀ x, c ≠ .coldReset x) → t.memSize = s.memSize ∧ t.regionTop = s.regionTop) ∧
    (movesTime c = false → t.time.sec = s.time.sec ∧ t.time.ns = s.time.ns ∧ t.time.residue = s.time.residue ∧
      t.time.divider = s.time.divider ∧ t.time.freq = s.time.freq ∧ t.time.lastError = s.time.lastError ∧
      t.frame = s.frame) ∧
    ((∀ x, c ≠ .coldReset x) → (∀ x, c ≠ .contactSample x) → t.contacts = s.contacts) ∧
    ((∀ x, c ≠ .coldReset x) → (∀ vin vref, c ≠ .conversionComplete vin vref) →
      ∀ j : ChannelId, t.channels[j].result = s.channels[j].result)

/-! ## Frames (R2, R195) -/

/-- A frame a card forms by the layouts of R195 is, when it arrives, the command it stands for, with every operand at every
value its field admits. -/
def Obligations.CardFramesRoundTrip : Prop :=
  ∀ n : SlotId,
    (∀ (tag : Byte) (addr : Word) (count : Nat), 1 ≤ count → count ≤ 16 →
      arrivalOf n (readFrame tag addr count) = .readFrameArrival n tag addr count) ∧
    (∀ (addr : Word) (first last : Mask) (data : List Word), 1 ≤ data.length → data.length ≤ 16 →
      arrivalOf n (writeFrame addr first last data) = .writeFrameArrival n addr first last data) ∧
    (∀ (seq : BitVec 16) (turnaround : Word),
      arrivalOf n (replyFrame seq turnaround) = .echoReplyArrival n seq turnaround) ∧
    arrivalOf n fenceFrame = .readyToFenceArrival n ∧ arrivalOf n idleFrame = .idleArrival n

/-! ## Slot links (chapter 1) -/

/-- A request that arrives in OPEN (R8, R10): stored at the tail below 16 frames, HOLD marked at 12, or counted as an overflow;
in the other link states it is discarded (R2, R4, R6). An IDLE frame (R4, R6): the 8th in a row takes ALIGNING to MEASURING,
where an ECHO is due at once and the 100 ms cadence runs; in MEASURING and OPEN it ends a run of failing frames. -/
def Obligations.FrameArrivals : Prop :=
  (∀ (c : Instr) (n : SlotId) (r : Request) (s : State), arrivingRequest c = some (n, r) →
     ∃ t, exec c s = .next t ∧ SameButLink n s t ∧ SameMemory s t ∧
       t.links[n] =
         match s.links[n].state with
         | .off => s.links[n]
         | .aligning => { s.links[n] with goodRun := 0 }
         | .measuring => { s.links[n] with failRun := 0 }
         | .fenced => s.links[n]
         | .opened =>
           if 16 ≤ s.links[n].buffer.length then
             { s.links[n] with failRun := 0, windowCount := min 65535 (s.links[n].windowCount + 1) }
           else if s.links[n].buffer.length + 1 = 12 ∧ s.links[n].holdFlag = false then
             { s.links[n] with failRun := 0, buffer := s.links[n].buffer ++ [r], holdFlag := true,
                               mark := if s.links[n].mark = some .go then none else some .hold }
           else { s.links[n] with failRun := 0, buffer := s.links[n].buffer ++ [r] }) ∧
  (∀ (n : SlotId) (s : State), ∃ t, exec (.idleArrival n) s = .next t ∧ SameButLink n s t ∧ SameMemory s t ∧
     t.links[n] =
       match s.links[n].state with
       | .off => s.links[n]
       | .fenced => s.links[n]
       | .measuring => { s.links[n] with failRun := 0 }
       | .opened => { s.links[n] with failRun := 0 }
       | .aligning =>
         if s.links[n].goodRun + 1 < 8 then { s.links[n] with goodRun := s.links[n].goodRun + 1 }
         else { s.links[n] with goodRun := 8, state := .measuring, missRun := 0, echoDue := true,
                                cadenceTimer := some 100 })

/-- A frame that fails its check (R2, R5): counted in the run and in the error window in MEASURING and OPEN; the 4th in a row
takes the link to ALIGNING with its buffer, reads, flow marks and echo gone, withdraws a waiting READ, leaves a waiting WRITE,
and from OPEN starts the realign limit of a live slot. That a due ECHO, the owed GO and the cadence go with them is deduced (log
entry 24), and so is that a READ or WRITE with a word count outside 1..16 is such a frame (log entry 22). -/
def Obligations.FailingFrames : Prop :=
  ∀ (c : Instr) (n : SlotId) (s : State),
    (c = .frameCheckFailed n ∨ (∃ tag addr count, c = .readFrameArrival n tag addr count ∧ (count = 0 ∨ 16 < count)) ∨
      (∃ addr first last data, c = .writeFrameArrival n addr first last data ∧ (data.length = 0 ∨ 16 < data.length))) →
    ∃ t, exec c s = .next t ∧ SameMemory s t ∧ t.cfg = s.cfg ∧ (∀ m : SlotId, m ≠ n → t.links[m] = s.links[m]) ∧
      (s.links[n].state = .off ∨ s.links[n].state = .fenced → t = s) ∧
      (s.links[n].state = .aligning → SameButLink n s t ∧ t.links[n] = { s.links[n] with goodRun := 0 }) ∧
      (s.links[n].state = .measuring ∨ s.links[n].state = .opened →
        (s.links[n].failRun + 1 < 4 → SameButLink n s t ∧
          t.links[n] = { s.links[n] with failRun := s.links[n].failRun + 1,
                                         windowCount := min 65535 (s.links[n].windowCount + 1) }) ∧
        (4 ≤ s.links[n].failRun + 1 →
          t.links[n] = { s.links[n] with state := .aligning, goodRun := 0, failRun := 0, buffer := [], reads := [],
                                         holdFlag := false, mark := none, goOwed := false, echo := none,
                                         replyTimer := none, cadenceTimer := none, echoDue := false,
                                         windowCount := min 65535 (s.links[n].windowCount + 1) } ∧
          ((∃ id addrs held, s.port.waiting[n] = some (.read id addrs held)) → t.port.waiting[n] = none) ∧
          (∀ ws kept, s.port.waiting[n] = some (.write ws kept) → t.port.waiting[n] = some (.write ws kept)) ∧
          (s.links[n].state = .opened → live s n = true → s.swaps[n].realign = none →
            t.swaps[n].realign = some 100)))

/-- An ECHO_REPLY that matches the outstanding echo in OPEN (R14, R15, R16, R17). With r the elapsed time less the card's
turnaround: within 0..200,000 it is valid, and half of it, rounded down, loads the measured delay or moves it by a quarter of
the difference; otherwise it is a miss, and the third miss in a row raises the echo source. Point 12 + n is handed the degraded
condition (R14, R158). A valid ECHO_REPLY in MEASURING opens the link (R6, R17): a GO is owed, the 1,000 ms cadence runs, the
sample is in the measured delay. The link's opening takes a slot in LINKING to ACTIVE (R135), its waiting queues to OPENING
(R44, R55), with a SWAP notice (R146), and ends the realign limit of a live slot (R143). An invalid reply leaves the link in
MEASURING, with no echo outstanding (R16); a reply that matches none ends the run of failing frames alone (R5, R15). -/
def Obligations.EchoReplies : Prop :=
  (∀ (n : SlotId) (seq : BitVec 16) (turnaround : Word) (e : Echo) (r : Int) (s : State), Calm s →
     s.links[n].state = .opened → s.links[n].echo = some e → e.seq = seq →
     r = elapsed e.sent { sec := s.time.sec, ns := s.time.ns } - (turnaround.toNat : Int) →
     ∃ t, exec (.echoReplyArrival n seq turnaround) s = .next t ∧ SameMemory s t ∧
       SameButReports { s with links := t.links } t ∧ (∀ m : SlotId, m ≠ n → t.links[m] = s.links[m]) ∧
       Handed s t (12 + n.val) (t.links[n].windowSource || t.links[n].echoSource) ∧
       t.links[n] =
         if 0 ≤ r ∧ r ≤ 200000 then
           { s.links[n] with failRun := 0, echo := none, replyTimer := none, missRun := 0, echoSource := false,
                             delay := some (match s.links[n].delay with
                               | none => (r / 2).toNat
                               | some k => ((k : Int) + divR (r / 2 - (k : Int)) 2).toNat) }
         else
           { s.links[n] with failRun := 0, echo := none, replyTimer := none, missRun := min 3 (s.links[n].missRun + 1),
                             echoSource := s.links[n].echoSource || decide (3 ≤ s.links[n].missRun + 1) }) ∧
  (∀ (n : SlotId) (seq : BitVec 16) (turnaround : Word) (e : Echo) (r : Int) (s : State), Calm s →
     s.links[n].state = .measuring → s.links[n].echo = some e → e.seq = seq →
     r = elapsed e.sent { sec := s.time.sec, ns := s.time.ns } - (turnaround.toNat : Int) → 0 ≤ r → r ≤ 200000 →
     ∃ t, exec (.echoReplyArrival n seq turnaround) s = .next t ∧ SameMemory s t ∧ t.cfg = s.cfg ∧
       Handed s t (12 + n.val) (t.links[n].windowSource || t.links[n].echoSource) ∧
       (∀ m : SlotId, m ≠ n → t.links[m] = s.links[m]) ∧ t.links[n].state = .opened ∧ t.links[n].goOwed = true ∧
       t.links[n].echo = none ∧ t.links[n].cadenceTimer = some 1000 ∧ t.links[n].buffer = s.links[n].buffer ∧
       t.links[n].delay =
         some (match s.links[n].delay with
           | none => (r / 2).toNat
           | some k => ((k : Int) + divR (r / 2 - (k : Int)) 2).toNat) ∧
       (∀ m : SlotId, m ≠ n → t.swaps[m] = s.swaps[m]) ∧
       (s.swaps[n].state = .linking →
         t.swaps[n] = { s.swaps[n] with state := .active, reason := .noReason, stateTimer := none, realign := none,
                                        retry := 0, pwrEn := true, linkEnable := true, readyLit := false } ∧
         (∀ q : QueueId, t.queues[q] = attachedTo s n q) ∧
         (NoAlarmSub s → ∀ m : SlotId, t.lists[m] = movedTold s n .active .noReason m)) ∧
       (live s n = true → t.swaps[n] = { s.swaps[n] with realign := none } ∧ t.queues = s.queues ∧
         (NoAlarmSub s → t.lists = s.lists)) ∧
       (s.swaps[n].state ≠ .linking → live s n = false → t.swaps = s.swaps ∧ t.queues = s.queues)) ∧
  (∀ (n : SlotId) (seq : BitVec 16) (turnaround : Word) (e : Echo) (r : Int) (s : State), Calm s →
     s.links[n].state = .measuring → s.links[n].echo = some e → e.seq = seq →
     r = elapsed e.sent { sec := s.time.sec, ns := s.time.ns } - (turnaround.toNat : Int) → r < 0 ∨ 200000 < r →
     ∃ t, exec (.echoReplyArrival n seq turnaround) s = .next t ∧ SameMemory s t ∧
       SameButReports { s with links := t.links } t ∧ (∀ m : SlotId, m ≠ n → t.links[m] = s.links[m]) ∧
       Handed s t (12 + n.val) (s.links[n].windowSource || s.links[n].echoSource) ∧
       t.links[n] = { s.links[n] with failRun := 0, echo := none, replyTimer := none }) ∧
  (∀ (n : SlotId) (seq : BitVec 16) (turnaround : Word) (s : State), Calm s →
     s.links[n].state = .measuring ∨ s.links[n].state = .opened → (∀ e, s.links[n].echo = some e → e.seq ≠ seq) →
     ∃ t, exec (.echoReplyArrival n seq turnaround) s = .next t ∧ SameMemory s t ∧ SameButLink n s t ∧
       t.links[n] = { s.links[n] with failRun := 0 })

/-- The link timers (R13, R14, R15): an ECHO falls due each 100 ms in MEASURING and each 1,000 ms in OPEN; a reply timer that
ends makes a miss, counted in OPEN alone; an error window that ends is judged against the threshold in force and another
begins; below it the run of quiet windows grows while the window source is present, and the tenth ends the source (R14). Point
12 + n is handed the degraded condition (R14, R158). That a window which reached the threshold before its link was fenced is
judged by its count too is the model's choice (log entry 46), and so is that a cadence point which finds an earlier due ECHO
unsent leaves one due (log entry 54); that an expiry is taken at a command of its own, when due, is deduced (log entry 14). -/
def Obligations.LinkTimers : Prop :=
  ∀ (n : SlotId) (s : State),
    (s.links[n].cadenceTimer = some 0 →
      ∃ t, exec (.echoCadenceDue n) s = .next t ∧ SameButLink n s t ∧ SameMemory s t ∧
        t.links[n] = { s.links[n] with echoDue := true,
                                       cadenceTimer := some (if s.links[n].state = .measuring then 100 else 1000) }) ∧
    (Calm s → s.links[n].replyTimer = some 0 →
      ∃ t, exec (.echoReplyTimerExpiry n) s = .next t ∧ SameMemory s t ∧ SameButReports { s with links := t.links } t ∧
        (∀ m : SlotId, m ≠ n → t.links[m] = s.links[m]) ∧
        Handed s t (12 + n.val) (t.links[n].windowSource || t.links[n].echoSource) ∧
        t.links[n] =
          if s.links[n].state = .opened then
            { s.links[n] with echo := none, replyTimer := none, missRun := min 3 (s.links[n].missRun + 1),
                              echoSource := s.links[n].echoSource || decide (3 ≤ s.links[n].missRun + 1) }
          else { s.links[n] with echo := none, replyTimer := none }) ∧
    (Calm s → s.links[n].windowTimer = some 0 →
      ∃ t, exec (.errorWindowEnd n) s = .next t ∧ SameMemory s t ∧ SameButReports { s with links := t.links } t ∧
        (∀ m : SlotId, m ≠ n → t.links[m] = s.links[m]) ∧ t.links[n].windowCount = 0 ∧
        Handed s t (12 + n.val) (t.links[n].windowSource || t.links[n].echoSource) ∧
        t.links[n].windowTimer = some 1000 ∧
        (s.cfg.linkThreshold ≤ s.links[n].windowCount → t.links[n].windowSource = true ∧ t.links[n].quietRun = 0) ∧
        (s.links[n].windowCount < s.cfg.linkThreshold → s.links[n].windowSource = true →
          t.links[n].windowSource = decide (s.links[n].quietRun + 1 < 10) ∧
            t.links[n].quietRun = min 10 (s.links[n].quietRun + 1)) ∧
        (s.links[n].windowCount < s.cfg.linkThreshold → s.links[n].windowSource = false →
          t.links[n].windowSource = false ∧ t.links[n].quietRun = s.links[n].quietRun))

/-- What a free transmit side sends in OPEN, in the order of R12: the GO owed, the pending mark, a due ECHO, a FRAME notice at
the head, the head read's DATA, another notice, IDLE. That a SEND of any frame but the one chosen begins nothing is the model's
choice (log entry 5); that a due ECHO replaces one still outstanding is deduced (log entry 25). -/
def Obligations.TransmitSideInOpen : Prop :=
  ∀ (n : SlotId) (s : State), s.links[n].state = .opened → s.links[n].sending = none →
    (∀ c ∈ sendRows n, c ≠ sendChosen s n → exec c s = .next s) ∧
    (s.links[n].goOwed = true ∨ s.links[n].mark = some .go →
      ∃ t, exec (.sendGo n) s = .next t ∧ SameButLink n s t ∧ SameMemory s t ∧
        t.links[n] =
          if s.links[n].goOwed then { s.links[n] with goOwed := false, sending := some .go }
          else { s.links[n] with mark := none, sending := some .go }) ∧
    (s.links[n].goOwed = false → s.links[n].mark = some .hold →
      ∃ t, exec (.sendHold n) s = .next t ∧ SameButLink n s t ∧ SameMemory s t ∧
        t.links[n] = { s.links[n] with mark := none, sending := some .hold }) ∧
    (s.links[n].goOwed = false → s.links[n].mark = none → s.links[n].echoDue = true →
      ∃ t, exec (.sendEcho n) s = .next t ∧ SameButLink n s t ∧ SameMemory s t ∧
        t.links[n] =
          { s.links[n] with sending := some (.echo s.links[n].echoSeq), echoSeq := s.links[n].echoSeq + 1,
                            echo := some { seq := s.links[n].echoSeq, sent := { sec := s.time.sec, ns := s.time.ns } },
                            replyTimer := some 5, echoDue := false }) ∧
    (s.links[n].goOwed = false → s.links[n].mark = none → s.links[n].echoDue = false →
      (∀ (e : Entry) (rest : List Entry), s.lists[n].entries = e :: rest →
        (e.id = .frame ∨ dataReady s.links[n] = false) →
        ∃ t, exec (.sendNotice n) s = .next t ∧ SameMemory s t ∧ SameButLink n { s with lists := t.lists } t ∧
          (∀ m : SlotId, m ≠ n → t.lists[m] = s.lists[m]) ∧
          t.links[n] = { s.links[n] with sending := some (.notice e) } ∧
          t.lists[n] =
            if rest = [] ∧ s.lists[n].overflow = true then
              { entries := [{ id := .resync, details := .blank, count := 1 }], overflow := false }
            else { s.lists[n] with entries := rest }) ∧
      (∀ (e : ReadEntry) (rest : List ReadEntry), s.links[n].reads = e :: rest → answered e = true →
        (∀ x ∈ s.lists[n].entries.head?, x.id ≠ .frame) →
        ∃ t, exec (.sendData n) s = .next t ∧ SameButLink n s t ∧ SameMemory s t ∧
          t.links[n] = { s.links[n] with reads := rest, sending := some (.data e.tag e.status (e.words.filterMap id)) }) ∧
      (s.lists[n].entries = [] → dataReady s.links[n] = false →
        ∃ t, exec (.sendIdle n) s = .next t ∧ SameButLink n s t ∧ SameMemory s t ∧
          t.links[n] = { s.links[n] with sending := some .idle }))

/-- The transmit side in the other states (R12): IDLE in ALIGNING and FENCED, a due ECHO or IDLE in MEASURING, nothing in OFF;
no other frame is begun, and none while a frame is being sent; a frame's end frees the side; and a list that is empty with its
mark set takes a RESYNC (R67). That a SEND not chosen, and RESYNC_ADD on any other list, change nothing is the model's choice
(log entry 5); that a due ECHO in MEASURING replaces one still outstanding is deduced (log entry 25). -/
def Obligations.TransmitSideElsewhere : Prop :=
  ∀ (n : SlotId) (s : State),
    (s.links[n].sending = none → s.links[n].state = .aligning ∨ s.links[n].state = .fenced ∨
        (s.links[n].state = .measuring ∧ s.links[n].echoDue = false) →
      ∃ t, exec (.sendIdle n) s = .next t ∧ SameButLink n s t ∧ SameMemory s t ∧
        t.links[n] = { s.links[n] with sending := some .idle }) ∧
    (s.links[n].sending = none → s.links[n].state = .measuring → s.links[n].echoDue = true →
      ∃ t, exec (.sendEcho n) s = .next t ∧ SameButLink n s t ∧ SameMemory s t ∧
        t.links[n] =
          { s.links[n] with sending := some (.echo s.links[n].echoSeq), echoSeq := s.links[n].echoSeq + 1,
                            echo := some { seq := s.links[n].echoSeq, sent := { sec := s.time.sec, ns := s.time.ns } },
                            replyTimer := some 5, echoDue := false }) ∧
    (s.links[n].sending ≠ none ∨ s.links[n].state = .off → ∀ c ∈ sendRows n, exec c s = .next s) ∧
    (s.links[n].state = .aligning ∨ s.links[n].state = .fenced →
      ∀ c ∈ sendRows n, c ≠ .sendIdle n → exec c s = .next s) ∧
    (s.links[n].state = .measuring →
      ∀ c ∈ sendRows n, c ≠ (if s.links[n].echoDue then .sendEcho n else .sendIdle n) → exec c s = .next s) ∧
    (∃ t, exec (.transmitFrameEnd n) s = .next t ∧ SameButLink n s t ∧ SameMemory s t ∧
      t.links[n] = { s.links[n] with sending := none }) ∧
    (∃ t, exec (.resyncAdd n) s = .next t ∧ SameMemory s t ∧ t = { s with lists := t.lists } ∧
      (∀ m : SlotId, m ≠ n → t.lists[m] = s.lists[m]) ∧
      t.lists[n] =
        if s.lists[n].entries = [] ∧ s.lists[n].overflow = true then
          { entries := [{ id := .resync, details := .blank, count := 1 }], overflow := false }
        else s.lists[n])

/-! ## Windows and the memory path (chapter 2) -/

/-- A READ taken (R9, R11, R21 to R25, R33): it leaves the buffer and joins the outstanding reads with its tag, a word for each
of its count and the status of its most severe outcome; its memory-bound words wait at the port in ascending order; a fault is
recorded once, at the first word with that outcome, and is one event of point 56 (R163). Each word is judged by the slot's
valid window of the lowest index that covers the first word, and by its rights (R19, R21, R23); a word that no memory
transaction reads takes its value at the taking, by the latch a READ of TIME word 0 takes first (R24, R28, R78, R122 to R124,
R187); the STATUS words rest on the model's choices too (log entries 12, 49, 50). -/
def Obligations.ReadsAreTaken : Prop :=
  ∀ (n : SlotId) (tag : Byte) (addr : Word) (count : Nat) (rest : List Request) (ps : List Placed) (s : State), Calm s →
    s.links[n].state = .opened → s.port.waiting[n] = none → s.links[n].reads.length < 8 →
    s.links[n].buffer = .read tag addr count :: rest → ps = placeBurst s readOutcome n addr count →
    ∃ t, exec (.windowTakeRead n) s = .next t ∧ SameMemory s t ∧
      SameButReports { s with links := t.links, port := t.port, access := t.access, latches := t.latches } t ∧
      (∀ m : SlotId, m ≠ n → t.links[m] = s.links[m] ∧ t.port.waiting[m] = s.port.waiting[m] ∧
        t.access[m] = s.access[m] ∧ t.latches[m] = s.latches[m]) ∧
      t.port = { s.port with waiting := t.port.waiting } ∧ t.links[n].buffer = rest ∧
      (∃ e : ReadEntry, t.links[n].reads = s.links[n].reads ++ [e] ∧ e.tag = tag ∧ e.words.length = count ∧
        e.status = dataStatus (worst ps) ∧
        e.status = (if ∃ p ∈ ps, p.outcome = .rights then .rights else if ∃ p ∈ ps, p.outcome = .unmapped then .unmapped
                    else .ok) ∧
        e.words = ps.map (takenValue s n t.latches[n])) ∧
      ps.length = count ∧
      (∀ (i : Nat) (p : Placed), ps[i]? = some p → JudgedBy s n (addr.toNat / 4 * 4) i readVerdict p) ∧
      t.latches[n] =
        (if ∃ p ∈ ps, p.dest = .time 0 ∧ p.outcome = .pass then
          { sec := s.time.sec, frame := s.frame, loop := s.time.loop } else s.latches[n]) ∧
      (ps.filterMap memoryAddr = [] → t.port.waiting[n] = none) ∧
      (ps.filterMap memoryAddr ≠ [] → t.port.waiting[n] =
        some (.read s.links[n].nextId (ps.filterMap memoryAddr) ((ps.filterMap memoryAddr).any (underCommit s)))) ∧
      (worst ps = .pass → t.access[n] = s.access[n]) ∧
      (∀ (k : AccessKind) (p : Placed), outcomeKind (worst ps) = some k →
        ps.find? (fun p => decide (p.outcome = worst ps)) = some p →
        t.access[n] = { count := min 65535 (s.access[n].count + 1), last := some (faultAddr p.addr, k) }) ∧
      PointHit s t 56 (if worst ps = .pass then 0 else 1)

/-- A READ of TIME word 0 that passes replaces the reading slot's latch (R123), and a READ of a change-mark word that meets no
fault clears the marks it read, for that reader alone (R188). The words of the STATUS window by the map of section 13.6 (R187):
the slots' four words each, the cabinet's, the references', the queues', the groups', the channels' and the points', and 0
elsewhere. That the field of an absent value reads 0, and that contact i is bit 16 + i, are the model's choice (log entries 49
and 50), as is the order of the bits listed together (log entry 12). -/
def Obligations.ReadsLatchAndClear : Prop :=
  (∀ (n : SlotId) (tag : Byte) (addr : Word) (count : Nat) (rest : List Request) (ps : List Placed) (s : State),
    s.links[n].state = .opened → s.port.waiting[n] = none → s.links[n].reads.length < 8 →
    s.links[n].buffer = .read tag addr count :: rest → ps = placeBurst s readOutcome n addr count →
    ((∃ p ∈ ps, p.dest = .time 0 ∧ p.outcome = .pass) →
      ∃ t, exec (.timeWord0Read n) s = .next t ∧ SameMemory s t ∧
        t.latches[n] = { sec := s.time.sec, frame := s.frame, loop := s.time.loop } ∧
        (∀ m : SlotId, m ≠ n → t.latches[m] = s.latches[m])) ∧
    (Calm s → worst ps = .pass → (∃ p ∈ ps, ∃ k, p.dest = .status k ∧ 56 ≤ k ∧ k ≤ 58) →
      ∃ t, exec (.statusMarkRead n) s = .next t ∧ SameMemory s t ∧
        (∀ m : SlotId, m ≠ n → t.marks[m] = s.marks[m]) ∧
        t.marks[n].swap = (if ∃ p ∈ ps, p.dest = .status 56 then 0#12 else s.marks[n].swap) ∧
        (∀ i, i < 32 → t.marks[n].points.getLsbD i =
          (if ∃ p ∈ ps, p.dest = .status 57 then false else s.marks[n].points.getLsbD i)) ∧
        (∀ i, 32 ≤ i → t.marks[n].points.getLsbD i =
          (if ∃ p ∈ ps, p.dest = .status 58 then false else s.marks[n].points.getLsbD i)))) ∧
  (∀ (n m : SlotId) (w : Swap) (s : State), w = s.swaps[m] →
    statusWord s n (4 * m.val) = BitVec.ofNat 32
      (swapCode w.state + reasonCode w.reason * 2 ^ 8 + w.retry * 2 ^ 12 + flag w.sample.fault * 2 ^ 16 +
        flag w.sample.pgood * 2 ^ 17 + flag w.sample.latch * 2 ^ 18 + flag w.sample.present * 2 ^ 19 +
        flag w.present * 2 ^ 20 + flag w.latchClosed * 2 ^ 21 + linkCode s.links[m].state * 2 ^ 24 +
        flag s.lists[m].overflow * 2 ^ 28 + flag s.adm[m].shed * 2 ^ 29) ∧
    statusWord s n (4 * m.val + 1) = BitVec.ofNat 32
      (match s.links[m].delay with
        | some d => d + 2 ^ 31
        | none => 0) ∧
    (∀ a k, s.access[m].last = some (a, k) →
      statusWord s n (4 * m.val + 2) = BitVec.ofNat 32 (s.access[m].count + accessCode k * 2 ^ 16 + s.adm[m].draw * 2 ^ 22) ∧
      statusWord s n (4 * m.val + 3) = a) ∧
    (s.access[m].last = none →
      statusWord s n (4 * m.val + 2) = BitVec.ofNat 32 (s.access[m].count + s.adm[m].draw * 2 ^ 22) ∧
      statusWord s n (4 * m.val + 3) = 0#32)) ∧
  (∀ (n : SlotId) (s : State),
    statusWord s n 48 = BitVec.ofNat 32
      (loopCode s.time.loop +
        (match s.time.active with
          | none => 0
          | some r => r.val + 1) * 2 ^ 4 +
        flag s.onBattery * 2 ^ 8 + flag s.scan.running * 2 ^ 12 + flag s.scan.pendingPass * 2 ^ 13 +
        (match s.scan.converting with
          | some j => j.val * 2 ^ 16 + 2 ^ 19
          | none => 0)) ∧
    statusWord s n 49 = BitVec.ofInt 32 s.time.freq ∧ statusWord s n 50 = BitVec.ofInt 32 s.time.applied ∧
    statusWord s n 51 = BitVec.ofInt 32 s.time.lastError ∧
    statusWord s n 52 = BitVec.ofNat 32 (s.log.write + s.log.lost * 2 ^ 16) ∧
    statusWord s n 53 = BitVec.ofNat 32
      (s.scan.skipped + ((List.finRange 8).map fun i => flag s.contacts[i] * 2 ^ (16 + i.val)).sum) ∧
    statusWord s n 54 = BitVec.ofNat 32 ((List.finRange 8).map fun i => senseCode s.cfg.senses[i] * 2 ^ (3 * i.val)).sum ∧
    statusWord s n 55 = BitVec.ofNat 32
      ((List.finRange 4).map fun k =>
        (flag s.relays[k].energised + forceCode s.relays[k].force * 2 + flag s.relays[k].alarm * 8) * 2 ^ (4 * k.val)).sum ∧
    statusWord s n 56 = BitVec.ofNat 32 s.marks[n].swap.toNat ∧
    statusWord s n 57 = BitVec.ofNat 32 (s.marks[n].points.toNat % 2 ^ 32) ∧
    statusWord s n 58 = BitVec.ofNat 32 (s.marks[n].points.toNat / 2 ^ 32)) ∧
  (∀ (n : SlotId) (r : RefId) (s : State),
    statusWord s n (64 + 8 * r.val) = BitVec.ofNat 32
      (flag s.refs[r].qualified + s.refs[r].misses * 2 ^ 4 + flag s.refs[r].capture.isSome * 2 ^ 7 +
        flag s.cfg.refs[r].enable * 2 ^ 8 + s.cfg.refs[r].priority * 2 ^ 12 + s.refs[r].rejects * 2 ^ 16) ∧
    statusWord s n (64 + 8 * r.val + 4) = BitVec.ofNat 32 s.cfg.refs[r].delay ∧
    (∀ c, s.refs[r].capture = some c →
      statusWord s n (64 + 8 * r.val + 1) = BitVec.ofNat 32 c.ns ∧
      statusWord s n (64 + 8 * r.val + 2) = BitVec.ofNat 32 c.sec ∧
      statusWord s n (64 + 8 * r.val + 3) = BitVec.ofNat 32 (c.sec / 2 ^ 32 % 2 ^ 16)) ∧
    (s.refs[r].capture = none → ∀ k, 1 ≤ k → k ≤ 3 → statusWord s n (64 + 8 * r.val + k) = 0#32)) ∧
  (∀ (n : SlotId) (q : QueueId) (x : Queue) (s : State), x = s.queues[q] →
    statusWord s n (128 + 4 * q.val) =
      BitVec.ofNat 32 (queueCode x.state + openResultCode x.result * 2 ^ 4 + flag x.overrun * 2 ^ 8) ∧
    statusWord s n (128 + 4 * q.val + 1) = BitVec.ofNat 32 (x.p + x.c * 2 ^ 16) ∧
    statusWord s n (128 + 4 * q.val + 2) = BitVec.ofNat 32 (index16 x.p x.c) ∧
    statusWord s n (128 + 4 * q.val + 3) = BitVec.ofNat 32 x.overruns) ∧
  (∀ (n : SlotId) (g : GroupId) (j : ChannelId) (p : PointId) (s : State),
    statusWord s n (384 + g.val) = BitVec.ofNat 32 (groupCode s.groups[g].state + s.groups[g].entryCount * 2 ^ 16) ∧
    statusWord s n (400 + j.val) = BitVec.ofNat 32
      ((match s.channels[j].result with
        | some v => v + 2 ^ 15
        | none => 0) + flag s.channels[j].high * 2 ^ 16 + flag s.channels[j].low * 2 ^ 17) ∧
    statusWord s n (448 + p.val) = BitVec.ofNat 32
      (pointStateCode s.points[p].state + flag s.points[p].acked * 2 ^ 4 + s.points[p].count * 2 ^ 16)) ∧
  (∀ (n : SlotId) (k : Nat) (s : State),
    (59 ≤ k ∧ k < 64) ∨ (69 ≤ k ∧ k < 72) ∨ (77 ≤ k ∧ k < 128) ∨ (408 ≤ k ∧ k < 448) ∨ 506 ≤ k →
    statusWord s n k = 0#32)

/-- A one-word WRITE to memory that is no region word and no index word waits at the port with the bytes both enable sets
enable, and changes no byte before it completes (R1, R27, R33). A WRITE of any length is one transaction of its words that go
to memory as they stand, in ascending order: the first with the first-word enables, the inner ones whole, the last with the
last-word enables; words that do not pass, staged and arm words, region words of a slot without the control right and index
words of queues in WAITING or OPENING are left out of it (R23, R27, R28, R47, R190), and with none left nothing waits. Its
staged and arm words act at once where no transaction waits; otherwise they wait with it and leave the staging unit as it was,
since the request is settled at its grant, which the model takes over chapter 5's text (R30, R37; log entry 47). A one-word
WRITE that is UNMAPPED, RIGHTS or PART_SERVED_WRITE, or a region word from a slot without the control right, writes nothing: no
transaction waits, the configuration and memory stand, and one access fault is recorded (R23, R25, R26, R190). Every access
fault grows the slot's count and is an event of point 56: at most one fault of the window unit and one CONTROL fault for a
WRITE, and one for each of its index words that is dropped (R25, R26, R48, R163, R190). Each word of a WRITE is judged by the
slot's valid window of the lowest index that covers the first word, and by its rights (R19, R21, R23). -/
def Obligations.MemoryWritesAreJudged : Prop :=
  (∀ (n : SlotId) (addr : Word) (first last : Mask) (data : Word) (rest : List Request) (a : Nat) (s : State), Calm s →
     HeadWord s n addr first last data rest (.mem a) → inRegion s a = false → indexWord s a = none →
     ∃ t, exec (.windowTakeWrite n) s = .next t ∧ SameMemory s t ∧ t = { s with links := t.links, port := t.port } ∧
       (∀ m : SlotId, m ≠ n → t.links[m] = s.links[m]) ∧ t.links[n].buffer = rest ∧
       (∀ m : SlotId, m ≠ n → t.port.waiting[m] = s.port.waiting[m]) ∧
       t.port = { s.port with waiting := t.port.waiting } ∧
       t.port.waiting[n] = some (.write [{ addr := a, data := data, mask := first &&& last, region := false }] [])) ∧
  (∀ (n : SlotId) (addr : Word) (first last : Mask) (data : Word) (rest : List Request) (p : Placed) (k : AccessKind)
     (s : State), Calm s → s.links[n].state = .opened → s.port.waiting[n] = none →
     s.links[n].buffer = .write addr first last [data] :: rest → placeBurst s writeOutcome n addr 1 = [p] →
     (outcomeKind p.outcome = some k ∨
       (∃ a, p.dest = .mem a ∧ p.outcome = .pass ∧ inRegion s a = true ∧ s.cfg.slots[n].right = false ∧ k = .control)) →
     ∃ t, exec (.windowTakeWrite n) s = .next t ∧ SameMemory s t ∧
       SameButReports { s with links := t.links, access := t.access } t ∧
       (∀ m : SlotId, m ≠ n → t.links[m] = s.links[m] ∧ t.access[m] = s.access[m]) ∧ t.links[n].buffer = rest ∧
       t.access[n] = { count := min 65535 (s.access[n].count + 1),
                       last := some (BitVec.ofNat 32 (addr.toNat / 4 * 4), k) } ∧
       PointHit s t 56 1) ∧
  (∀ (n : SlotId) (addr : Word) (first last : Mask) (data : List Word) (rest : List Request) (ps : List Placed)
     (ws : List WriteWord) (kept : List StagingWord) (s : State), Calm s → s.links[n].state = .opened → s.port.waiting[n] = none →
     s.links[n].buffer = .write addr first last data :: rest → ps = placeBurst s writeOutcome n addr data.length →
     ws = burstWords s ps first last data → kept = burstStaging ps first last data →
     (∀ p ∈ ps, ∀ a, p.dest = .mem a → p.outcome = .pass →
       (inRegion s a = true → s.cfg.slots[n].right = false) ∧
       (inRegion s a = false → ∀ q producer, indexWord s a = some (q, producer) →
         s.queues[q].state = .waiting ∨ s.queues[q].state = .opening)) →
     ∃ t, exec (.windowTakeWrite n) s = .next t ∧ SameMemory s t ∧ t.cfg = s.cfg ∧ t.queues = s.queues ∧
       t.swaps = s.swaps ∧ (∀ m : SlotId, m ≠ n → t.links[m] = s.links[m]) ∧ t.links[n].buffer = rest ∧
       (∀ m : SlotId, m ≠ n → t.port.waiting[m] = s.port.waiting[m] ∧ t.access[m] = s.access[m]) ∧
       t.port = { s.port with waiting := t.port.waiting } ∧
       t.port.waiting[n] = (if ws = [] then none else some (.write ws kept)) ∧
       (ws ≠ [] → t.staged = s.staged ∧ t.groups = s.groups) ∧
       (ws = [] → t.staged = (handStaging n kept s).staged ∧ t.groups = (handStaging n kept s).groups) ∧
       PointHit s t 56 (burstFaults s ps) ∧
       t.access[n].count =
         (if burstFaults s ps = 0 then s.access[n].count else min 65535 (s.access[n].count + burstFaults s ps)) ∧
       ((∀ p ∈ ps, p.outcome = .pass → ∃ a, p.dest = .mem a ∧ inRegion s a = false ∧ indexWord s a = none) →
         SameButReports { s with links := t.links, port := t.port, access := t.access } t ∧
         (worst ps = .pass → t = { s with links := t.links, port := t.port }) ∧
         (∀ (k : AccessKind) (p : Placed), outcomeKind (worst ps) = some k →
           ps.find? (fun p => decide (p.outcome = worst ps)) = some p →
           t.access[n] = { count := min 65535 (s.access[n].count + 1), last := some (faultAddr p.addr, k) }))) ∧
  (∀ (n : SlotId) (addr : Word) (count i : Nat) (p : Placed) (s : State),
     (placeBurst s writeOutcome n addr count)[i]? = some p → JudgedBy s n (addr.toNat / 4 * 4) i writeVerdict p)

/-- The memory port grants the commit engine first, then the queue initializer, then the log writer, then the slots in turn
from the one after the last granted, a held READ passed over (R32, R34). The log writer's transaction carries the head record's
four words, by the layout of section 13.6, at its place in the ring (R182, R185). The grant of a slot's WRITE settles it: the
words it kept for the staging unit act then, one after the other (R30, R37), which the model takes over chapter 5's text (log
entry 47). -/
def Obligations.GrantOrder : Prop :=
  ∀ s : State, s.startUp = none → s.port.flight = none →
    (∀ ws, s.port.commit = some ws → ∃ t, exec .memoryGrant s = .next t ∧
      t = { s with port := { s.port with flight := some (.commit ws), commit := none } }) ∧
    (∀ q, s.port.commit = none → s.port.zeroing = some q → ∃ t, exec .memoryGrant s = .next t ∧
      t = { s with port := { s.port with flight := some (.zeroing q s.cfg.queues[q].base), zeroing := none } }) ∧
    (∀ r rest, s.port.commit = none → s.port.zeroing = none → s.log.queue = r :: rest →
      ∃ t ws, exec .memoryGrant s = .next t ∧ t = { s with port := { s.port with flight := some (.log ws) } } ∧
        ws.map WriteWord.addr =
          [0, 4, 8, 12].map (s.cfg.logBase + r.seq % logCapacity s.cfg.logCode * 16 + ·) ∧
        ws.map WriteWord.data = recordImage r ∧ (∀ w ∈ ws, w.mask = Mask.all ∧ w.region = false)) ∧
    (s.port.commit = none → s.port.zeroing = none → s.log.queue = [] →
      ∀ (n : SlotId) (d : Nat), d < 12 → n.val = (s.port.last.val + 1 + d) % 12 → offered s.port.waiting[n] = true →
      (∀ (m : SlotId) (e : Nat), e < d → m.val = (s.port.last.val + 1 + e) % 12 → offered s.port.waiting[m] = false) →
      ∃ t f, exec .memoryGrant s = .next t ∧
        t = { s with port := { s.port with flight := some f, waiting := s.port.waiting.set n none, last := n },
                     staged := t.staged, groups := t.groups } ∧
        (∀ id addrs held, s.port.waiting[n] = some (.read id addrs held) →
          f = .slotRead n id addrs ∧ t.staged = s.staged ∧ t.groups = s.groups) ∧
        (∀ ws kept, s.port.waiting[n] = some (.write ws kept) →
          f = .slotWrite n (ws.map fun w =>
            if w.region then { w with data := image s.cfg (regionIdx s w.addr) } else w) ∧
          t.staged = (handStaging n kept s).staged ∧ t.groups = (handStaging n kept s).groups))

/-- A slot READ completes (R11, R35): its entry takes the words as memory holds them, in the place of the words it has no value
for yet, in order, those it was given at its taking kept (R24), and memory is unchanged. A slot WRITE completes (R33, R35):
memory takes its words one after the other; every byte outside them is unchanged, and where no two of them share a byte the
enabled bytes of each hold the word, least significant byte lowest; that bit k of the enables stands for byte k is the model's
choice (log entry 51). A READ held by a commit round is released when no COMMITTING group's range holds one of its words (R32);
that HELD_READ_RELEASE leaves it held while one does is the model's choice (log entry 5). -/
def Obligations.SlotTransactions : Prop :=
  ((∀ (n : SlotId) (id : Nat) (addrs : List Nat) (s : State), s.port.flight = some (.slotRead n id addrs) →
      ∃ t, exec .slotReadComplete s = .next t ∧ SameMemory s t ∧ t = { s with links := t.links, port := t.port } ∧
        (∀ m : SlotId, m ≠ n → t.links[m] = s.links[m]) ∧ t.port = { s.port with flight := none } ∧
        t.links[n] = { s.links[n] with reads := t.links[n].reads } ∧
        t.links[n].reads.length = s.links[n].reads.length ∧
        (∀ e ∈ t.links[n].reads, e.id ≠ id → e ∈ s.links[n].reads) ∧
        (∀ (before after : List ReadEntry) (e : ReadEntry), s.links[n].reads = before ++ e :: after → e.id = id →
          (∀ x ∈ before ++ after, x.id ≠ id) → e.words = addrs.map (fun _ => none) →
          t.links[n].reads =
            before ++ { e with words := addrs.map fun a => some (BitVec.ofNat 32 ((readByte s.mem a).toNat +
              (readByte s.mem (a + 1)).toNat * 2 ^ 8 + (readByte s.mem (a + 2)).toNat * 2 ^ 16 +
              (readByte s.mem (a + 3)).toNat * 2 ^ 24)) } :: after) ∧
        (∀ (before after : List ReadEntry) (e : ReadEntry), s.links[n].reads = before ++ e :: after → e.id = id →
          (∀ x ∈ before ++ after, x.id ≠ id) →
          ∃ ws, t.links[n].reads = before ++ { e with words := ws } :: after ∧ ws.length = e.words.length ∧
            (∀ (k : Nat) (w : Word), e.words[k]? = some (some w) → ws[k]? = some (some w)) ∧
            (∀ k : Nat, e.words[k]? = some none →
              (∀ a, addrs[(e.words.take k).count none]? = some a → ws[k]? = some (some (BitVec.ofNat 32
                ((readByte s.mem a).toNat + (readByte s.mem (a + 1)).toNat * 2 ^ 8 +
                  (readByte s.mem (a + 2)).toNat * 2 ^ 16 + (readByte s.mem (a + 3)).toNat * 2 ^ 24)))) ∧
              (addrs.length ≤ (e.words.take k).count none → ws[k]? = some none)))) ∧
   (∀ (n : SlotId) (ws : List WriteWord) (s : State), s.MemoryOk → s.port.flight = some (.slotWrite n ws) →
      ∃ t, exec .slotWriteComplete s = .next t ∧
        t = { s with mem := t.mem, port := { s.port with flight := none } } ∧ t.mem = writeWords s.mem ws ∧
        (∀ a : Nat, (∀ w ∈ ws, a < w.addr ∨ w.addr + 4 ≤ a) → readByte t.mem a = readByte s.mem a) ∧
        (WordsApart ws → ∀ w ∈ ws, HoldsWord s t w))) ∧
  (∀ (n : SlotId) (id : Nat) (addrs : List Nat) (held : Bool) (s : State),
     s.port.waiting[n] = some (.read id addrs held) →
     ∃ t, exec (.heldReadRelease n) s = .next t ∧ SameMemory s t ∧
       t = { s with port := { s.port with waiting := t.port.waiting } } ∧
       (∀ m : SlotId, m ≠ n → t.port.waiting[m] = s.port.waiting[m]) ∧
       ((∀ a ∈ addrs, ∀ g : GroupId, s.groups[g].state = .committing → s.cfg.groups[g].valid = true →
           ¬ (s.cfg.groups[g].base ≤ a ∧ a < s.cfg.groups[g].base + s.cfg.groups[g].pages * 4096)) →
         t.port.waiting[n] = some (.read id addrs false)) ∧
       ((∃ a ∈ addrs, ∃ g : GroupId, s.groups[g].state = .committing ∧ s.cfg.groups[g].valid = true ∧
           s.cfg.groups[g].base ≤ a ∧ a < s.cfg.groups[g].base + s.cfg.groups[g].pages * 4096) →
         t.port.waiting[n] = some (.read id addrs true)))

/-! ## Card queues (chapter 3) -/

/-- OPEN of a CLOSED queue (R41, R44): the result of the two-stage check, OVERLAP where the ring shares a byte with the control
region, a valid group, another ring that is not CLOSED or the log; a passing check leaves the queue in WAITING with its indices
and flags cleared, or in OPENING where both endpoints are live. In any other state OPEN changes no queue. CLOSE (R43, R68): the
queue goes to CLOSED with its indices, flags, count and result kept, its waiting zeroing is withdrawn and its notices leave
every list, one left empty with its overflow mark set taking its RESYNC (R67); on a CLOSED queue it changes neither queues nor
lists. -/
def Obligations.OpenAndClose : Prop :=
  (∀ (o : Origin) (q : QueueId) (c : QueueCfg) (s : State), Calm s → ReachesRegion s o (queueIdx q 3) → c = s.cfg.queues[q] →
     ∃ t, exec (.openQueue o q) s = .next t ∧ SameMemory s t ∧ t.cfg = s.cfg ∧
       t = { s with links := t.links, port := t.port, queues := t.queues } ∧
       (∀ m : SlotId, m ≠ o.slot → t.links[m] = s.links[m]) ∧ WaitsRegionWord t o.slot (queueIdx q 3) ∧
       (∀ x : QueueId, x ≠ q → t.queues[x] = s.queues[x]) ∧
       t.queues[q] =
         if s.queues[q].state ≠ .closed then s.queues[q]
         else if 11 < c.producer ∨ 11 < c.consumer ∨ 2 ^ c.cellCount < c.high ∨ c.high ≤ c.low ∨
             MemSize.bytes s.memSize < c.base + (64 + 2 ^ c.cellCount * 2 ^ c.cellSize) then
           { s.queues[q] with result := .badDescriptor }
         else if ringOverlaps s q c then { s.queues[q] with result := .overlap }
         else
           { state := if bothLive s q then .opening else .waiting, p := 0, c := 0, overrun := false, overruns := 0,
             spaceWanted := false, result := .noResult, offered := false }) ∧
  (∀ (q : QueueId) (s : State), s.cfg.InRange → (ringOverlaps s q s.cfg.queues[q] = false ↔ RingClear s q s.cfg.queues[q])) ∧
  (∀ (o : Origin) (q : QueueId) (s : State), Calm s → ReachesRegion s o (queueIdx q 3) →
     ∃ t, exec (.closeQueue o q) s = .next t ∧ SameMemory s t ∧ t.cfg = s.cfg ∧
       t = { s with links := t.links, port := t.port, queues := t.queues, lists := t.lists } ∧
       WaitsRegionWord t o.slot (queueIdx q 3) ∧ (∀ x : QueueId, x ≠ q → t.queues[x] = s.queues[x]) ∧
       t.queues[q] = { s.queues[q] with state := .closed } ∧
       (s.queues[q].state = .closed → t.lists = s.lists ∧ t.port.zeroing = s.port.zeroing) ∧
       (s.queues[q].state ≠ .closed → t.port.zeroing = (if s.port.zeroing = some q then none else s.port.zeroing) ∧
         ∀ (n : SlotId) (es : List Entry),
           es = s.lists[n].entries.filter (fun e => match e.id with
             | .queue _ x => decide (x ≠ q)
             | _ => true) →
           t.lists[n] =
             if es = [] ∧ s.lists[n].overflow = true then
               { entries := [{ id := .resync, details := .blank, count := 1 }], overflow := false }
             else { entries := es, overflow := s.lists[n].overflow }))

/-- A one-word WRITE to an index word of a queue that is not CLOSED (R47 to R51); the bytes not enabled come from the tracked
index, bit k of the enables standing for byte k by the model's choice (log entry 51). In WAITING and OPENING it is dropped
with a QUEUE_NOT_OPEN fault. From any slot but the endpoint the word belongs to it is dropped with a QUEUE_ENDPOINT fault.
From that endpoint an advance that fits passes, moves the index and sets or clears the flags, and the write waits at the port;
one that does not is dropped, an overrun counted or an UNDERRUN fault recorded. With no slot subscribed to alarms the notices
are QUEUE_POSTED for the consumer, where the queue was empty or reaches its high watermark, QUEUE_OVERRUN for the producer,
and QUEUE_SPACE for the producer where space was wanted and the low watermark is reached (R57). Each fault is one event of point
56, an overrun one of point 53, and an advance that fits none of either (R25, R50, R158, R163). -/
def Obligations.IndexWordsAreJudged : Prop :=
  ∀ (n : SlotId) (addr : Word) (first last : Mask) (data : Word) (rest : List Request) (a : Nat) (q : QueueId)
    (producer : Bool) (x : Queue) (c : QueueCfg) (tracked new adv room owner : Nat) (s : State), Calm s →
    HeadWord s n addr first last data rest (.mem a) →
    inRegion s a = false → indexWord s a = some (q, producer) → x = s.queues[q] → c = s.cfg.queues[q] →
    tracked = (if producer then x.p else x.c) →
    new = (if (first &&& last).getLsbD 0 then data.toNat % 256 else tracked % 256) +
      256 * (if (first &&& last).getLsbD 1 then data.toNat / 256 % 256 else tracked / 256 % 256) →
    adv = index16 new tracked → room = (if producer then cellsOf c - occupancy x else occupancy x) →
    owner = (if producer then c.producer else c.consumer) →
    ∃ t, exec (.windowTakeWrite n) s = .next t ∧ SameMemory s t ∧ t.cfg = s.cfg ∧ t.links[n].buffer = rest ∧
      SameButReports { s with links := t.links, port := t.port, queues := t.queues, access := t.access } t ∧
      (∀ y : QueueId, y ≠ q → t.queues[y] = s.queues[y]) ∧ (∀ m : SlotId, m ≠ n → t.access[m] = s.access[m]) ∧
      (∀ k : AccessKind,
        (k = .queueNotOpen ∧ (x.state = .waiting ∨ x.state = .opening)) ∨
        (k = .queueEndpoint ∧ (x.state = .opened ∨ x.state = .detached) ∧ owner ≠ n.val) ∨
        (k = .underrun ∧ (x.state = .opened ∨ x.state = .detached) ∧ owner = n.val ∧ producer = false ∧ room < adv) →
        t.queues[q] = x ∧ t.port = s.port ∧ (NoAlarmSub s → t.lists = s.lists) ∧
        t.access[n] = { count := min 65535 (s.access[n].count + 1),
                        last := some (BitVec.ofNat 32 (addr.toNat / 4 * 4), k) } ∧
        PointHit s t 56 1) ∧
      (x.state = .opened ∨ x.state = .detached → owner = n.val → adv = 0 ∨ adv ≤ room →
        t.access = s.access ∧ (∀ p : PointId, p ≠ 55 → p ≠ 57 → t.points[p] = s.points[p]) ∧
        t.port.waiting[n] =
          some (.write [{ addr := a, data := BitVec.ofNat 32 new, mask := Mask.all, region := false }] []) ∧
        (adv = 0 → t.queues[q] = x ∧ t.lists = s.lists) ∧
        (0 < adv → producer = true →
          t.queues[q] = { x with p := new, spaceWanted := x.spaceWanted || decide (c.high ≤ index16 new x.c) } ∧
          (NoAlarmSub s → ∀ m : SlotId, t.lists[m] =
            told
              ((occupancy x = 0 || (occupancy x < c.high && c.high ≤ index16 new x.c)) && c.consumer = m.val && live s m)
              (.queue .posted q) (.indices new x.c) s.lists[m])) ∧
        (0 < adv → producer = false →
          t.queues[q] = { x with c := new, overrun := false,
                                 spaceWanted := x.spaceWanted && !decide (index16 x.p new ≤ c.low) } ∧
          (NoAlarmSub s → ∀ m : SlotId, t.lists[m] =
            told (x.spaceWanted && index16 x.p new ≤ c.low && c.producer = m.val && live s m)
              (.queue .space q) (.indices x.p new) s.lists[m]))) ∧
      (x.state = .opened ∨ x.state = .detached → owner = n.val → producer = true → 0 < adv → room < adv →
        t.access = s.access ∧ t.port = s.port ∧
        t.queues[q] = { x with overruns := min 65535 (x.overruns + 1), overrun := true, spaceWanted := true } ∧
        PointHit s t 53 1 ∧
        (NoAlarmSub s → ∀ m : SlotId, t.lists[m] =
          told (c.producer = m.val && live s m) (.queue .overrun q) (.indices x.p x.c) s.lists[m]))

/-- The queue initializer offers the lowest-numbered queue in OPENING whose zeroing has not been offered and whose index words
no slot write at the port carries (R45); that READs do not hold it back is deduced (log entry 27). A zeroing transaction
completes (R45, R46): the two index words are 0 in memory, no other byte changes, and a queue still in the OPENING that offered
it, as deduced (log entry 37), is OPEN with p = c = 0, with one QUEUE_READY notice for each endpoint (R57). -/
def Obligations.ZeroingOpensTheQueue : Prop :=
  (∀ (q : QueueId) (s : State), s.port.zeroing = none → (∀ x b, s.port.flight ≠ some (.zeroing x b)) →
     s.queues[q].state = .opening → s.queues[q].offered = false → indexBusy s s.cfg.queues[q].base = false →
     (∀ x : QueueId, x < q → s.queues[x].state ≠ .opening ∨ s.queues[x].offered = true ∨
       indexBusy s s.cfg.queues[x].base = true) →
     ∃ t, exec .queueZeroingOffer s = .next t ∧ SameMemory s t ∧
       t = { s with port := { s.port with zeroing := some q }, queues := t.queues } ∧
       (∀ x : QueueId, x ≠ q → t.queues[x] = s.queues[x]) ∧ t.queues[q] = { s.queues[q] with offered := true }) ∧
  (∀ (q : QueueId) (base : Nat) (s : State), Calm s → s.MemoryOk → s.port.flight = some (.zeroing q base) →
     ∃ t, exec .zeroingComplete s = .next t ∧
       SameButReports { s with mem := t.mem, port := { s.port with flight := none }, queues := t.queues } t ∧
       (∀ a : Nat, readByte t.mem a = if base ≤ a ∧ a < base + 8 then 0#8 else readByte s.mem a) ∧
       (∀ x : QueueId, x ≠ q → t.queues[x] = s.queues[x]) ∧
       t.queues[q] =
         (if s.queues[q].state = .opening ∧ s.queues[q].offered = true then
           { s.queues[q] with state := .opened, p := 0, c := 0, overrun := false, spaceWanted := false, offered := false }
         else s.queues[q]) ∧
       (NoAlarmSub s → ∀ m : SlotId, t.lists[m] =
         told
           (s.queues[q].state = .opening && s.queues[q].offered && live s m &&
             (s.cfg.queues[q].producer = m.val || s.cfg.queues[q].consumer = m.val))
           (.queue .ready q) (.indices 0 0) s.lists[m]))

/-! ## Notice lists (chapter 4) -/

/-- A notice handed for a slot (R60, R62, R66, R67): nothing for a slot that is not live; merged into the entry of its identity,
in its place; otherwise a new entry of count 1, a FRAME at the head and any other at the tail, while the list holds fewer than
32 entries, no RESYNC and a clear mark; a notice that finds a full list with a clear mark sets the mark and raises point 55. -/
def Obligations.NoticesAreTaken : Prop :=
  ∀ (n : SlotId) (id : NoticeId) (d : Details) (l : NoticeList) (s : State), l = s.lists[n] →
    (∀ m : SlotId, m ≠ n → (handNotice n id d s).1.lists[m] = s.lists[m]) ∧
    (handNotice n id d s).1 = { s with lists := (handNotice n id d s).1.lists } ∧
    (live s n = false → handNotice n id d s = (s, [])) ∧
    (live s n = true → (∃ e ∈ l.entries, e.id = id) →
      (handNotice n id d s).2 = [] ∧
      (handNotice n id d s).1.lists[n] =
        { l with entries := l.entries.map fun e =>
            if e.id = id then { e with details := d, count := min 255 (e.count + 1) } else e }) ∧
    (live s n = true → (∀ e ∈ l.entries, e.id ≠ id ∧ e.id ≠ .resync) → l.overflow = false → l.entries.length < 32 →
      (handNotice n id d s).2 = [] ∧
      (handNotice n id d s).1.lists[n] =
        { l with entries := if id = .frame then { id := id, details := d, count := 1 } :: l.entries
                            else l.entries ++ [{ id := id, details := d, count := 1 }] }) ∧
    (live s n = true → (∀ e ∈ l.entries, e.id ≠ id) → ((∃ e ∈ l.entries, e.id = .resync) ∨ l.overflow = true) →
      handNotice n id d s = (s, [])) ∧
    (live s n = true → (∀ e ∈ l.entries, e.id ≠ id ∧ e.id ≠ .resync) → l.overflow = false → 32 ≤ l.entries.length →
      (handNotice n id d s).2 = [.event 55] ∧
      (handNotice n id d s).1.lists[n] = { l with overflow := true })

/-! ## Staging groups (chapter 5) -/

/-- ARM, DISARM and DISCARD of group g's arm word in each group state (R79 to R82); no transaction waits for them. An arm-word
write with a byte not enabled, or with a code that names no operation, is taken and has no effect (R79): the link alone has
taken a frame. An arm word that waited for the grant of its request's transaction acts so at the grant, in its place among the
request's words (R28, R30, R37; log entry 47). -/
def Obligations.ArmWordOperations : Prop :=
  (∀ (o : Origin) (g : GroupId) (f : BitVec 10) (x : Group) (s : State), Calm s → ReachesArm s o g → x = s.groups[g] →
     (∃ t, exec (.armGroup o g f) s = .next t ∧ SameMemory s t ∧ t = { s with links := t.links, groups := t.groups } ∧
       (∀ h : GroupId, h ≠ g → t.groups[h] = s.groups[h]) ∧
       t.groups[g] =
         if x.state = .committing then { x with pendingArm := some f.toNat, armedFrame := f.toNat }
         else { x with state := .armed, armedFrame := f.toNat }) ∧
     (∃ t, exec (.disarmGroup o g) s = .next t ∧ SameMemory s t ∧ t = { s with links := t.links, groups := t.groups } ∧
       (∀ h : GroupId, h ≠ g → t.groups[h] = s.groups[h]) ∧
       t.groups[g] =
         match x.state with
         | .opened => x
         | .armed => { x with state := .opened }
         | .committing => { x with pendingArm := none }) ∧
     (∃ t, exec (.discardGroup o g) s = .next t ∧ SameMemory s t ∧
       t = { s with links := t.links, groups := t.groups, staged := t.staged } ∧
       (∀ h : GroupId, h ≠ g → t.groups[h] = s.groups[h]) ∧
       t.staged = s.staged.filter (fun e => decide (¬ (e.group = g ∧ (e.next = true ∨ x.state ≠ .committing)))) ∧
       t.groups[g] =
         if x.state = .committing then { x with entryCount := 0, torn := false, pendingArm := none }
         else { x with entryCount := 0, torn := false, state := .opened })) ∧
  (∀ (o : Origin) (g : GroupId) (data : Word) (be : Mask) (s : State), Calm s → ReachesArm s o g →
     (be ≠ 0xF#4 ∨ data.toNat % 4 = 0) →
     ∃ t, exec (.armWordIgnored o g data be) s = .next t ∧ SameMemory s t ∧ SameButLink o.slot s t ∧
       t.links[o.slot].buffer = []) ∧
  (∀ (n : SlotId) (g : GroupId) (data : Word) (be : Mask) (rest : List StagingWord) (s : State),
     ∃ t, handStaging n (.arm g data be :: rest) s = handStaging n rest t ∧
       t = { s with groups := t.groups, staged := t.staged } ∧ (∀ h : GroupId, h ≠ g → t.groups[h] = s.groups[h]) ∧
       t.groups[g] = armedGroup data be s.groups[g] ∧ t.staged = armedList g data be s)

/-- A staged word (R74, R75, R76): it merges into the entry of its group, address and round, makes a new one at the tail below
256 entries, or is dropped with the group's torn flag set; no transaction waits for it. From a slot that is not live it does
nothing (log entry 52). A word that waited for the grant of its request's transaction does the same at the grant (R30, R37; log
entry 47), and nothing where its group has left the address meanwhile, by the model's choice (R91; log entry 61); the words of
one request act one after the other (R28). -/
def Obligations.StagedWords : Prop :=
  (∀ (n : SlotId) (addr : Word) (first last : Mask) (data : Word) (rest : List Request) (g : GroupId) (a : Nat)
    (s : State), Calm s → HeadWord s n addr first last data rest (.staged g a) →
    ∃ t, exec (.windowTakeWrite n) s = .next t ∧ SameMemory s t ∧
      t = { s with links := t.links, groups := t.groups, staged := t.staged } ∧ t.links[n].buffer = rest ∧
      StagesWord n g a data (first &&& last) s t) ∧
  (∀ (n : SlotId) (g : GroupId) (a : Nat) (data : Word) (be : Mask) (rest : List StagingWord) (s : State),
    handStaging n [] s = s ∧
    ∃ t, handStaging n (.staged g a data be :: rest) s = handStaging n rest t ∧
      t = { s with groups := t.groups, staged := t.staged } ∧ (StagesAt s g a → StagesWord n g a data be s t) ∧
      (¬ StagesAt s g a → t = s))

/-- The commit engine reaches a round (R85, R87): it offers the round's first transaction, its oldest entry and the run of
following addresses, or ends an empty round, taking a pending ARM and handing COMMIT_DONE OK with the round's size (R61, R89).
A commit transaction completes (R85): memory takes its words, each with its enabled bytes, bit k of the enables standing for
byte k by the model's choice (log entry 51), and no other byte changes; its entries leave the list; the group stays COMMITTING
while entries of its round remain, and as none does the round ends: its entries have left the list and the next round's are
current (R87). A round's end releases the READs held by that group alone (R32); and a WARM_RESET that waited for the last
COMMITTING group is carried out (R194), a HOLD still pending then being taken back by R10 in place of a GO, as deduced (log
entry 26). -/
def Obligations.CommitRounds : Prop :=
  (∀ (g : GroupId) (later : List GroupId) (s : State), Calm s → s.serving = false → s.rounds = g :: later →
     ∃ t, exec .commitRoundStart s = .next t ∧ SameMemory s t ∧ t.cfg = s.cfg ∧
       (∀ (e : Staged) (es : List Staged), s.staged.filter (fun e => decide (e.group = g ∧ e.next = false)) = e :: es →
         ∃ run ws, t = { s with serving := true, port := { s.port with commit := some ws } } ∧
           ws = (e :: run).map (fun e => { addr := e.addr, data := e.data, mask := e.mask, region := false }) ∧
           run <+: es ∧ run.length ≤ 15 ∧
           (∀ i : Nat, i < run.length → (run.map Staged.addr)[i]? = some (e.addr + 4 * (i + 1))) ∧
           (run.length < 15 → ∀ x ∈ (es.drop run.length).head?, x.addr ≠ e.addr + 4 * (run.length + 1))) ∧
       (s.staged.filter (fun e => decide (e.group = g ∧ e.next = false)) = [] →
         (s.warmPending = false ∨ (∃ h : GroupId, h ≠ g ∧ s.groups[h].state = .committing) →
           t.warmPending = s.warmPending ∧ t.serving = false ∧ t.rounds = later ∧
           (∀ h : GroupId, h ≠ g → t.groups[h] = s.groups[h]) ∧ t.groups[g] = roundClosed s.groups[g] ∧
           t.staged = s.staged.map (fun e => if e.group = g then { e with next := false } else e) ∧ HoldsJudged s t ∧
           (NoAlarmSub s → ∀ m : SlotId,
             t.lists[m] = commitTold s [g] .ok (fun g => s.groups[g].roundSize) m s.lists[m])) ∧
         (s.warmPending = true → (∀ h : GroupId, h ≠ g → s.groups[h].state ≠ .committing) →
           t.warmPending = false ∧ t.rounds = later ∧ t.serving = false ∧
           ((∀ m : SlotId, live s m = true → usesGroup s g m = true → TakesNotice (.commitDone g) s.lists[m]) →
             Warmed { s with rounds := later, serving := false, groups := s.groups.set g (roundClosed s.groups[g]) } t)))) ∧
  (∀ (g : GroupId) (later : List GroupId) (ws : List WriteWord) (s : State), Calm s → s.MemoryOk →
     s.port.flight = some (.commit ws) → s.rounds = g :: later →
     ∃ t, exec .commitTransactionComplete s = .next t ∧ t.cfg = s.cfg ∧
       t.mem = writeWords s.mem ws ∧
       (∀ a : Nat, (∀ w ∈ ws, a < w.addr ∨ w.addr + 4 ≤ a) → readByte t.mem a = readByte s.mem a) ∧
       (WordsApart ws → ∀ w ∈ ws, HoldsWord s t w) ∧
       t.port.flight = none ∧
       ((∃ e ∈ s.staged, e.group = g ∧ e.next = false ∧ ∀ w ∈ ws, w.addr ≠ e.addr) →
         t.groups = s.groups ∧ t.rounds = s.rounds ∧ t.port.commit ≠ none ∧ t.warmPending = s.warmPending ∧
         t.staged = s.staged.filter (fun e => decide (¬ (e.group = g ∧ e.next = false ∧ ∃ w ∈ ws, w.addr = e.addr)))) ∧
       ((∀ e ∈ s.staged, e.group = g → e.next = false → ∃ w ∈ ws, w.addr = e.addr) →
         t.rounds = later ∧ t.serving = false ∧
         (s.warmPending = false ∨ (∃ h : GroupId, h ≠ g ∧ s.groups[h].state = .committing) →
           t.warmPending = s.warmPending ∧ (∀ h : GroupId, h ≠ g → t.groups[h] = s.groups[h]) ∧
           t.groups[g] = roundClosed s.groups[g] ∧
           t.staged = (s.staged.filter (fun e => decide (e.group ≠ g ∨ e.next = true))).map
             (fun e => if e.group = g then { e with next := false } else e) ∧
           HoldsJudged s t ∧
           (NoAlarmSub s → ∀ m : SlotId,
             t.lists[m] = commitTold s [g] .ok (fun g => s.groups[g].roundSize) m s.lists[m])) ∧
         (s.warmPending = true → (∀ h : GroupId, h ≠ g → s.groups[h].state ≠ .committing) →
           t.warmPending = false ∧
           ((∀ m : SlotId, live s m = true → usesGroup s g m = true → TakesNotice (.commitDone g) s.lists[m]) →
             Warmed { s with mem := t.mem, port := { s.port with flight := none }, rounds := later, serving := false,
                             groups := s.groups.set g (roundClosed s.groups[g]) } t))))

/-- A group due at a continuous frame tick (R83, R84): torn, its entries go and it is OPEN; untorn, it is COMMITTING with its
entry count kept as the round's size. Any other group keeps its state. A READ that waits is held from here while a group whose
range holds one of its words is COMMITTING (R32). The torn groups' COMMIT_DONE notices and the tick's FRAME notices are handed
in the order the command names (R61, R89, R119, R120). Each torn due group is one event of point 54, taken behind the period's
divider tick, if it makes one, as deduced (R83, R163; log entry 39). That the command is the period that crosses the boundary
is deduced too (log entry 11). -/
def Obligations.DueGroupsCommit : Prop :=
  ∀ (order : TickOrder) (f : Nat) (s : State), Calm s → crosses s = true →
    f = frameOf (advance s.time).sec (advance s.time).ns →
    ∃ t, exec (.continuousFrameTick order) s = .next t ∧ SameMemory s t ∧ t.frame = f ∧ HoldsJudged s t ∧
      (∀ g : GroupId,
        (s.groups[g].state = .armed → s.groups[g].armedFrame = f → s.groups[g].torn = true →
          t.groups[g] = { s.groups[g] with state := .opened, torn := false, entryCount := 0 } ∧
          ∀ e ∈ t.staged, e.group ≠ g) ∧
        (s.groups[g].state = .armed → s.groups[g].armedFrame = f → s.groups[g].torn = false →
          t.groups[g] = { s.groups[g] with state := .committing, roundSize := s.groups[g].entryCount, entryCount := 0 } ∧
          ∀ e ∈ s.staged, e.group = g → e ∈ t.staged) ∧
        (s.groups[g].state ≠ .armed ∨ s.groups[g].armedFrame ≠ f →
          t.groups[g] = s.groups[g] ∧ ∀ e ∈ s.staged, e.group = g → e ∈ t.staged)) ∧
      t.rounds = s.rounds ++ (List.finRange 16).filter (fun g =>
        decide (s.groups[g].state = .armed ∧ s.groups[g].armedFrame = f ∧ s.groups[g].torn = false)) ∧
      (s.points[(54 : PointId)].state ≠ .rising → t.points[(54 : PointId)] =
        hitPoint s.cfg.points[(54 : PointId)].enable
          ((List.finRange 16).filter fun g =>
            decide (s.groups[g].state = .armed ∧ s.groups[g].armedFrame = f ∧ s.groups[g].torn = true)).length
          { s.points[(54 : PointId)] with
            timer := counted (decide (s.time.divider + 1 = 125000)) s.points[(54 : PointId)].timer }) ∧
      (NoAlarmSub s → ∀ m : SlotId, t.lists[m] =
        let gs := (List.finRange 16).filter fun g =>
          decide (s.groups[g].state = .armed ∧ s.groups[g].armedFrame = f ∧ s.groups[g].torn = true)
        match order with
        | .stagingFirst =>
          frameTold s f t.time.sec t.time.ns s.time.loop false m
            (commitTold s gs .torn (fun g => s.groups[g].entryCount) m s.lists[m])
        | .framesFirst =>
          commitTold s gs .torn (fun g => s.groups[g].entryCount) m
            (frameTold s f t.time.sec t.time.ns s.time.loop false m s.lists[m]))

/-! ## Cabinet timebase and frame ticks (chapters 6 and 7) -/

/-- One oscillator period (R93, R95, R116, R117): the residue grows by 800,000,000,000 + 8 × A and carries into nanoseconds and
seconds, the divider counts to 125,000, and the frame number in force follows cabinet time. CONTINUOUS_FRAME_TICK is such a
period that crosses a frame boundary, which is the model's reading of that row (log entry 11). The period's advance of cabinet
time is added to a running miss timer (R102); a high line's pending edge and a conversion count the period, up to the 4 and the
2,500 that stand for 32 ns and 20 µs (R100, R176; log entry 10). A divider tick takes 1 from every running millisecond timer, of
the links, the slots, the points, the holdover and the scan interval, which starts at the first tick (R94, R178), one started
before the period in its order of commands included (log entry 48), and a timer at 0 waits for its expiry's command (log entry
14); it makes the samples of the slot lines and contacts due. A period without a divider tick changes none of those timers, and
one that crosses no boundary changes nothing that is not named here. -/
def Obligations.OscillatorPeriods : Prop :=
  ∀ (order : TickOrder) (c : Instr) (total ns : Nat) (s : State),
    (c = .localOscillatorPeriod order ∨ (c = .continuousFrameTick order ∧ crosses s = true)) →
    -2000000 ≤ s.time.applied → s.time.applied ≤ 2000000 →
    (total : Int) = s.time.residue + (800000000000 + 8 * s.time.applied) → ns = s.time.ns + total / 100000000000 →
    ∃ t, exec c s = .next t ∧ SameMemory s t ∧ t.cfg = s.cfg ∧ t.latches = s.latches ∧ t.channels = s.channels ∧
      t.time = { s.time with divider := if s.time.divider + 1 = 125000 then 0 else s.time.divider + 1,
                             residue := total % 100000000000,
                             ns := if 1000000000 ≤ ns then ns - 1000000000 else ns,
                             sec := if 1000000000 ≤ ns then (s.time.sec + 1) % 2 ^ 48 else s.time.sec,
                             holdTimer := counted (decide (s.time.divider + 1 = 125000)) s.time.holdTimer } ∧
      t.frame = (t.time.sec * 100 + t.time.ns / 10000000) % 1024 ∧
      (s.time.divider + 1 = 125000 → (∀ i : ContactId, t.contactDue[i] = true) ∧ ∀ n : SlotId, t.swaps[n].sampleDue = true) ∧
      (∀ r : RefId, t.refs[r] =
        { s.refs[r] with missTimer := s.refs[r].missTimer.map fun a => a + (total - s.time.residue),
                         edge := s.refs[r].edge.map fun e => { e with periods := min 4 (e.periods + 1) } }) ∧
      (∀ tick : Bool, tick = decide (s.time.divider + 1 = 125000) →
        t.scan =
          { s.scan with periods := if s.scan.converting.isSome then min 2500 (s.scan.periods + 1) else s.scan.periods,
                        timer := if tick = true ∧ s.scan.timer = none then some s.cfg.scanInterval
                                 else counted tick s.scan.timer } ∧
        (Calm s →
          (∀ n : SlotId,
            t.links[n] =
              { s.links[n] with windowTimer := counted tick s.links[n].windowTimer,
                                replyTimer := counted tick s.links[n].replyTimer,
                                cadenceTimer := counted tick s.links[n].cadenceTimer } ∧
            t.swaps[n] =
              { s.swaps[n] with stateTimer := counted tick s.swaps[n].stateTimer, realign := counted tick s.swaps[n].realign,
                                sampleDue := tick || s.swaps[n].sampleDue }) ∧
          (∀ i : ContactId, t.contactDue[i] = (tick || s.contactDue[i])) ∧
          (∀ p : PointId, t.frame = s.frame ∨ (p ≠ 54 ∧ p ≠ 55 ∧ p ≠ 57) →
            t.points[p] = { s.points[p] with timer := counted tick s.points[p].timer }) ∧
          (t.frame = s.frame →
            t = { s with time := t.time, refs := t.refs, links := t.links, swaps := t.swaps, points := t.points,
                         scan := t.scan, contactDue := t.contactDue })))

/-- Edges of a reference line (R100): a rising edge on an enabled line is captured at cabinet time, a line that stays high
gives no other, a fall within 32 ns, read as 4 oscillator periods (log entry 10), takes it back, and edges on a disabled line
are ignored; that a new edge takes the place of one whose pulse event has not been taken is deduced (log entry 36). A pulse is
judged by the gate (R101): rejected, its reject count grows and nothing else changes; accepted, its reference is QUALIFIED with
no miss, its miss timer restarts, and the active reference is chosen again (R99), with its point's condition absent (R98). With
another reference active and no load pending the loop does not act (R103): where the pulse's reference displaces the other it
becomes active with its capture absent, and where the other stays active the capture becomes its last; cabinet time and the
loop stand. -/
def Obligations.PulsesAreGated : Prop :=
  (∀ (r : RefId) (s : State),
     (∃ t, exec (.referenceLineEdge r true) s = .next t ∧ SameMemory s t ∧ t = { s with refs := t.refs } ∧
       (∀ q : RefId, q ≠ r → t.refs[q] = s.refs[q]) ∧
       t.refs[r] =
         if s.refs[r].line then s.refs[r]
         else { s.refs[r] with line := true,
                               edge := if s.cfg.refs[r].enable then
                                         some { capture := { sec := s.time.sec, ns := s.time.ns }, periods := 0 }
                                       else none }) ∧
     (∃ t, exec (.referenceLineEdge r false) s = .next t ∧ SameMemory s t ∧ t = { s with refs := t.refs } ∧
       (∀ q : RefId, q ≠ r → t.refs[q] = s.refs[q]) ∧ t.refs[r].line = false ∧
       (∀ e, s.refs[r].edge = some e → t.refs[r].edge = if e.periods < 4 then none else some e) ∧
       (s.refs[r].edge = none → t.refs[r].edge = none))) ∧
  (∀ (r : RefId) (order : TickOrder) (ed : Edge) (s : State), Calm s → s.refs[r].edge = some ed → 4 ≤ ed.periods →
     s.cfg.refs[r].enable = true →
     ((∃ old, s.refs[r].capture = some old ∧ ∀ k : Nat, 1 ≤ k → k ≤ s.cfg.missLimit →
         elapsed old ed.capture < k * 1000000000 - s.cfg.gate ∨ k * 1000000000 + s.cfg.gate < elapsed old ed.capture) →
       ∃ t, exec (.pulseEvent r order) s = .next t ∧ SameMemory s t ∧ t = { s with refs := t.refs } ∧
         (∀ q : RefId, q ≠ r → t.refs[q] = s.refs[q]) ∧
         t.refs[r] = { s.refs[r] with rejects := min 65535 (s.refs[r].rejects + 1), edge := none }) ∧
     ((s.refs[r].capture = none ∨ ∃ old, s.refs[r].capture = some old ∧ ∃ k : Nat, 1 ≤ k ∧ k ≤ s.cfg.missLimit ∧
         k * 1000000000 - s.cfg.gate ≤ elapsed old ed.capture ∧
         elapsed old ed.capture ≤ k * 1000000000 + s.cfg.gate) →
       ∃ t, exec (.pulseEvent r order) s = .next t ∧ SameMemory s t ∧ t.cfg = s.cfg ∧ t.refs[r].qualified = true ∧
         t.refs[r].misses = 0 ∧ t.refs[r].missTimer = some 0 ∧ t.refs[r].rejects = s.refs[r].rejects ∧
         t.refs[r].edge = none ∧ t.time.active = chosenRef t ∧ Handed s t (51 + r.val) false ∧
         (∀ a : RefId, s.time.load = none → s.time.active = some a → a ≠ r →
           (∀ q : RefId, q ≠ r → t.refs[q] = s.refs[q]) ∧
           (s.FrameAgrees → SameButReports { s with refs := t.refs, time := t.time } t) ∧
           (chosenRef (s.modRef r (acceptPulse ed.capture)) = some r →
             t.time = { s.time with active := some r } ∧
             t.refs[r] = { s.refs[r] with qualified := true, misses := 0, missTimer := some 0, capture := none,
                                          edge := none }) ∧
           (chosenRef (s.modRef r (acceptPulse ed.capture)) = some a →
             t.time = s.time ∧
             t.refs[r] = { s.refs[r] with qualified := true, misses := 0, missTimer := some 0, capture := some ed.capture,
                                          edge := none }))))

/-- A pulse the loop acts on (R103, R104, R106, R107, R111, R112, R114): steers and steps in FREE, ACQUIRE and HOLDOVER; steers
or unlocks in LOCKED, where the capture becomes the last as it stands (R101). The phase error and the rounding of the steer are
as R104 and R97 say. A step voids the outstanding echoes, moves the other reference's capture, and may give a discontinuous
tick (R88, R109, R118). The conditions of the loop and of the reference are handed to points 48, 49 and 51 or 52 (R98, R110).
-/
def Obligations.LoopActsOnPulses : Prop :=
  ∀ (r : RefId) (order : TickOrder) (ed : Edge) (e dF P F : Int) (g : Nat) (s : State), s.refs[r].edge = some ed →
    4 ≤ ed.periods → s.cfg.refs[r].enable = true → accepts s.cfg s.refs[r] ed.capture = true → s.time.load = none →
    (s.time.active = some r ∨ s.time.active = none) → chosenRef (s.modRef r (acceptPulse ed.capture)) = some r →
    IsPhaseError ed.capture.ns s.cfg.refs[r].delay e → IsRounded (100 * e) s.cfg.ki dF →
    F = max (-2000000) (min 2000000 (s.time.freq - dF)) → IsRounded (100 * e) s.cfg.kp (-P) →
    g = (if |e| ≤ (s.cfg.lockWindow : Int) then min 15 (s.time.good + 1) else 0) →
    ∃ t, exec (.pulseEvent r order) s = .next t ∧ SameMemory s t ∧ t.cfg = s.cfg ∧
      (Calm s → Handed s t 48 (decide (t.time.loop ≠ .locked)) ∧ Handed s t 49 false ∧ Handed s t (51 + r.val) false) ∧
      t.refs[r].qualified = true ∧ t.refs[r].misses = 0 ∧ t.refs[r].missTimer = some 0 ∧ t.refs[r].edge = none ∧
      (s.time.loop ≠ .locked → |e| ≤ (s.cfg.stepThreshold : Int) →
        t.time = { s.time with lastError := e, freq := F, prop := P, applied := max (-2000000) (min 2000000 (F + P)),
                               good := g, loop := if s.cfg.lockCount ≤ g then .locked else .acquire, active := some r,
                               holdTimer := if s.time.loop = .holdover then none else s.time.holdTimer } ∧
        t.refs[r].capture = some ed.capture) ∧
      (s.time.loop ≠ .locked → (s.cfg.stepThreshold : Int) < |e| →
        t.time = { s.time with lastError := e, prop := 0, applied := s.time.freq, good := 0,
                               loop := if s.cfg.lockCount ≤ 0 then .locked else .acquire, active := some r,
                               holdTimer := if s.time.loop = .holdover then none else s.time.holdTimer,
                               sec := (Stamp.move (-e) { sec := s.time.sec, ns := s.time.ns }).sec,
                               ns := (Stamp.move (-e) { sec := s.time.sec, ns := s.time.ns }).ns } ∧
        t.refs[r].capture = some (Stamp.move (-e) ed.capture) ∧ (Calm s → Adjusted s t r order (-e))) ∧
      (s.time.loop = .locked → t.refs[r].capture = some ed.capture ∧ ∀ q : RefId, q ≠ r → t.refs[q] = s.refs[q]) ∧
      (s.time.loop = .locked → (s.cfg.stepThreshold : Int) < |e| →
        t.time = { s.time with lastError := e, loop := .acquire, good := 0, active := some r }) ∧
      (s.time.loop = .locked → |e| ≤ (s.cfg.stepThreshold : Int) → |e| ≤ (s.cfg.lockWindow : Int) →
        t.time = { s.time with lastError := e, freq := F, prop := P, applied := max (-2000000) (min 2000000 (F + P)),
                               active := some r }) ∧
      (s.time.loop = .locked → |e| ≤ (s.cfg.stepThreshold : Int) → (s.cfg.lockWindow : Int) < |e| →
        t.time = { s.time with lastError := e, freq := F, prop := P, applied := max (-2000000) (min 2000000 (F + P)),
                               good := 0, loop := .acquire, active := some r })

/-- A hard set at an accepted pulse of any reference, active or not (R103, R108): its capture becomes (L, D), cabinet time
moves with it, P and the good count and the last error become 0, A becomes F, FREE and HOLDOVER go to ACQUIRE, and the load is
consumed. That a reference which displaces the other at this pulse is left without a capture is deduced (log entry 55). The
hard set voids the outstanding echoes, moves the other reference's capture, and may give a discontinuous tick (R88, R109,
R118); the conditions of the loop and of the reference are handed to their points (R98, R110). -/
def Obligations.HardSets : Prop :=
  ∀ (r next : RefId) (order : TickOrder) (ed : Edge) (l : Nat) (s : State), s.refs[r].edge = some ed → 4 ≤ ed.periods →
    s.cfg.refs[r].enable = true → accepts s.cfg s.refs[r] ed.capture = true → s.time.load = some l → l < 2 ^ 48 →
    s.cfg.refs[r].delay ≤ 999999 → ed.capture.sec < 2 ^ 48 → ed.capture.ns < 1000000000 →
    chosenRef (s.modRef r (acceptPulse ed.capture)) = some next → (s.time.active = some r → next = r) →
    ∃ t, exec (.pulseEvent r order) s = .next t ∧ SameMemory s t ∧ t.cfg = s.cfg ∧
      t.refs[r].capture =
        (if next = r ∧ s.time.active ≠ some r ∧ s.time.active ≠ none then none
         else some { sec := l, ns := s.cfg.refs[r].delay }) ∧
      (let m := Stamp.move (elapsed ed.capture { sec := l, ns := s.cfg.refs[r].delay })
          { sec := s.time.sec, ns := s.time.ns }
       t.time = { s.time with sec := m.sec, ns := m.ns, prop := 0, applied := s.time.freq, good := 0, lastError := 0,
                              load := none, active := some next,
                              loop := if s.time.loop = .locked then .locked else .acquire,
                              holdTimer := if s.time.loop = .holdover then none else s.time.holdTimer }) ∧
      (Calm s → Adjusted s t r order (elapsed ed.capture { sec := l, ns := s.cfg.refs[r].delay }) ∧
        Handed s t 48 (decide (t.time.loop ≠ .locked)) ∧ Handed s t 49 false ∧ Handed s t (51 + r.val) false)

/-- A miss timer's expiry (R102, R113, R114): below the miss limit it counts and restarts; at the limit the reference is LOST;
the other, where it becomes active in its place, starts with its capture absent and the loop stands (R99); and if it was the
active one and none is left, LOCKED goes to HOLDOVER, or through it to FREE with a holdover limit of 0, and ACQUIRE to FREE;
the conditions of points 48, 49 and 51 or 52 are handed (R98, R110), and the way through HOLDOVER is an event of point 50. A
holdover second (R114): counted; at the limit the loop goes to FREE and its timer stops, with an event of point 50 and the
conditions of points 48 and 49 handed (R110, R163); below it another second runs. That the miss timer restarts at the command
that takes its expiry, a late one too, is deduced (log entry 15), and so is that an expiry has a command of its own (log entry
14). -/
def Obligations.LostReferences : Prop :=
  (∀ (r : RefId) (a : Nat) (s : State), s.refs[r].missTimer = some a →
     (1000000000 + s.cfg.gate) * 100000000000 < a →
     (Calm s → s.refs[r].misses + 1 < s.cfg.missLimit →
       ∃ t, exec (.missTimerExpiry r) s = .next t ∧ SameMemory s t ∧ t = { s with refs := t.refs } ∧
         (∀ q : RefId, q ≠ r → t.refs[q] = s.refs[q]) ∧
         t.refs[r] = { s.refs[r] with misses := s.refs[r].misses + 1, missTimer := some 0 }) ∧
     (s.cfg.missLimit ≤ s.refs[r].misses + 1 →
       ∃ t, exec (.missTimerExpiry r) s = .next t ∧ SameMemory s t ∧ t.cfg = s.cfg ∧
         t.refs[r] = { s.refs[r] with qualified := false, capture := none, misses := 0, missTimer := none } ∧
         (Calm s → Handed s t (51 + r.val) s.cfg.refs[r].enable) ∧
         (s.time.active = some r → ∀ q : RefId, q ≠ r → usable s q = true →
           t.time = { s.time with active := some q } ∧ t.refs[q] = { s.refs[q] with capture := none }) ∧
         (∀ q : RefId, q ≠ r → s.time.active = some q → usable s q = true → t.time = s.time ∧ t.refs[q] = s.refs[q]) ∧
         (s.time.active = some r → (∀ q : RefId, q ≠ r → usable s q = false) →
           t.time = leftAlone s.cfg.holdoverLimit s.time ∧
           (Calm s → s.time.loop = .locked → Handed s t 48 true ∧
             (s.cfg.holdoverLimit ≠ 0 → Handed s t 49 true) ∧
             (s.cfg.holdoverLimit = 0 → s.points[(50 : PointId)].state ≠ .rising →
               t.points[(50 : PointId)] = hitPoint s.cfg.points[(50 : PointId)].enable 1 s.points[(50 : PointId)]))))) ∧
  (∀ s : State, s.time.loop = .holdover → s.time.holdTimer = some 0 →
     ∃ t, exec .holdoverTimerExpiry s = .next t ∧ SameMemory s t ∧ t.cfg = s.cfg ∧ t.refs = s.refs ∧
       t.time =
         (if s.cfg.holdoverLimit ≤ s.time.holdCount + 1 then
           { s.time with holdCount := s.time.holdCount + 1, loop := .free, holdTimer := none }
         else { s.time with holdCount := s.time.holdCount + 1, holdTimer := some 1000 }) ∧
       (Calm s →
         (s.time.holdCount + 1 < s.cfg.holdoverLimit → t = { s with time := t.time }) ∧
         (s.cfg.holdoverLimit ≤ s.time.holdCount + 1 →
           (s.points[(50 : PointId)].state ≠ .rising →
             t.points[(50 : PointId)] = hitPoint s.cfg.points[(50 : PointId)].enable 1 s.points[(50 : PointId)]) ∧
           Handed s t 48 true ∧ Handed s t 49 false ∧
           ∀ p : PointId, p ≠ 48 → p ≠ 49 → p ≠ 50 → p ≠ 55 → p ≠ 57 → t.points[p] = s.points[p])))

/-- Writes of a reference's enable and priority and of SECONDS_LOAD (R98, R99, R108): the copy takes the field alone, a
disabled reference is LOST with no capture and no timer, and without an edge that waits for its pulse, by the model's choice
(log entry 58), the active reference is R99's choice after the write, one that displaces the other starting with its capture
absent while the loop stands, with R113's effect on the loop where none is left, out of LOCKED with the conditions of points 48
and 49 and, with a holdover limit of 0, the event of point 50 (R110, R114), and point 51 or 52 is handed whether the reference
is enabled and LOST; and the load taken is the 48-bit value of the two words. -/
def Obligations.TimebaseWrites : Prop :=
  ∀ (o : Origin) (r : RefId) (s : State), s.cfg.InRange →
    (∀ enable : Bool, ReachesRegion s o (globalIdx ⟨15 + 2 * r.val, by omega⟩) →
      ∃ t, exec (.referenceEnableWrite o r enable) s = .next t ∧ SameMemory s t ∧
        t.cfg = { s.cfg with refs := s.cfg.refs.set r { s.cfg.refs[r] with enable := enable } } ∧
        t.time.active = chosenRef t ∧ (Calm s → Handed s t (51 + r.val) (enable && !t.refs[r].qualified)) ∧
        (∀ a : RefId, s.time.active = some a → t.time.active = some a →
          t.time = s.time ∧ ∀ q : RefId, q ≠ r ∨ enable = true → t.refs[q] = s.refs[q]) ∧
        (∀ a b : RefId, s.time.active = some a → t.time.active = some b → a ≠ b →
          t.time = { s.time with active := some b } ∧ t.refs[b] = { s.refs[b] with capture := none } ∧
            (a ≠ r ∨ enable = true → t.refs[a] = s.refs[a])) ∧
        (s.cfg.refs[r].enable = true → enable = false →
          (s.time.active = some r → (∀ q : RefId, q ≠ r → usable s q = false) →
            t.time = leftAlone s.cfg.holdoverLimit s.time ∧
            (Calm s → s.time.loop = .locked → Handed s t 48 true ∧
              (s.cfg.holdoverLimit ≠ 0 → Handed s t 49 true) ∧
              (s.cfg.holdoverLimit = 0 → s.points[(50 : PointId)].state ≠ .rising →
                t.points[(50 : PointId)] = hitPoint s.cfg.points[(50 : PointId)].enable 1 s.points[(50 : PointId)]))) ∧
          t.refs[r] = { s.refs[r] with qualified := false, capture := none, misses := 0, missTimer := none,
                                       edge := none })) ∧
    (∀ priority : BitVec 2, ReachesRegion s o (globalIdx ⟨15 + 2 * r.val, by omega⟩) →
      ∃ t, exec (.referencePriorityWrite o r priority) s = .next t ∧ SameMemory s t ∧
        t.cfg = { s.cfg with refs := s.cfg.refs.set r { s.cfg.refs[r] with priority := priority.toNat } } ∧
        t.time.active = chosenRef t ∧
        (∀ a : RefId, s.time.active = some a → t.time.active = some a → t.time = s.time ∧ t.refs = s.refs) ∧
        (∀ a b : RefId, s.time.active = some a → t.time.active = some b → a ≠ b →
          t.time = { s.time with active := some b } ∧ t.refs[a] = s.refs[a] ∧
            t.refs[b] = { s.refs[b] with capture := none })) ∧
    (ReachesRegion s o (globalIdx 5) →
      ∃ t, exec (.secondsLoad o) s = .next t ∧ SameMemory s t ∧ t.cfg = s.cfg ∧ t.refs = s.refs ∧
        t.time = { s.time with load := some (s.cfg.secondsHigh * 2 ^ 32 + s.cfg.secondsLow) })

/-! ## Slot power sequencing and admission (chapters 8 and 9) -/

/-- A tick's sample of a slot's lines (R127, R133, R145): it is the latest sample, taken once; the PRESENT sample that
completes the debounce of an EMPTY MANUAL slot without a power request seats it; and one that completes the debounce of a lost
PRESENT empties a slot in any other state, its outputs off. The other lines (R127, R128, R134, R136, R142), each sample with
PRESENT steady: a LATCH that opens quiesces an ACTIVE slot, which with timers of 0 passes on to FENCED or OFF (R137, R139), and
turns off a POWERING or LINKING one (R140); the tenth good PGOOD takes POWERING to LINKING with link enable on; the tenth bad
one faults a slot whose link is enabled; a LATCH that closes takes a QUIESCING slot without a shed mark, or one in OFF, that
the latch had taken there back to ACTIVE or SEATED (R137, R141), and on from SEATED as R133 says; FAULT faults a powered slot
(R142). Each change hands its SWAP notices and point n's condition (R144), and a slot that leaves the live states its
QUEUE_DETACHED notices (R53, R64, R146). That the rows name whole samples is the model's reading (log entry 9). -/
def Obligations.SlotLinesAreSampled : Prop :=
  (∀ (n : SlotId) (lines : Lines) (s : State), s.swaps[n].sampleDue = true →
     (∃ t, exec (.slotLineSample n lines) s = .next t ∧ SameMemory s t ∧ t.cfg = s.cfg ∧ t.time = s.time ∧
       t.swaps[n].sample = lines ∧ t.swaps[n].sampleDue = false) ∧
     (Calm s → s.swaps[n].state = .empty → s.swaps[n].present = false → lines.present = true →
       s.cfg.presentDebounce ≤ s.swaps[n].presentCount + 1 → s.cfg.slots[n].policy = .manual →
       s.swaps[n].powerRequest = false →
       ∃ t, exec (.presentDebounced n lines) s = .next t ∧ SameMemory s t ∧ t.cfg = s.cfg ∧
         t.swaps[n].present = true ∧ t.swaps[n].state = .seated ∧ t.swaps[n].pwrEn = false ∧
         (∀ m : SlotId, m ≠ n → t.swaps[m] = s.swaps[m]) ∧
         (NoAlarmSub s → ∀ m : SlotId, t.lists[m] = movedTold s n .seated .noReason m)) ∧
     (Calm s → s.swaps[n].state ≠ .empty → s.swaps[n].present = true → lines.present = false →
       s.cfg.presentDebounce ≤ s.swaps[n].presentCount + 1 →
       ∃ t, exec (.presentDebounced n lines) s = .next t ∧ SameMemory s t ∧ t.cfg = s.cfg ∧
         Handed s t n.val false ∧
         t.swaps[n].present = false ∧ t.swaps[n].state = .empty ∧ t.swaps[n].pwrEn = false ∧
         t.swaps[n].linkEnable = false ∧ t.swaps[n].retry = 0 ∧ t.adm[n].draw = 0 ∧ t.adm[n].shed = false ∧
         (∀ q : QueueId, t.queues[q] = queueAfter s n q) ∧
         (NoAlarmSub s → ∀ m : SlotId, t.lists[m] =
           movedTold s n .empty (if powered s.swaps[n].state then .surprise else .noReason) m))) ∧
  (∀ (n : SlotId) (lines : Lines) (s : State), Calm s → s.swaps[n].sampleDue = true →
     lines.present = s.swaps[n].present → lines.fault = false →
     (s.swaps[n].state = .active → s.swaps[n].latchClosed = true → lines.latch = false → lines.pgood = true →
       s.cfg.latchDebounce ≤ s.swaps[n].latchCount + 1 → s.cfg.drainTimeout ≠ 0 →
       ∃ t, exec (.latchDebounced n lines) s = .next t ∧ SameMemory s t ∧ t.cfg = s.cfg ∧
         t.swaps[n].latchClosed = false ∧ t.swaps[n].state = .quiescing ∧ t.swaps[n].reason = .latch ∧
         t.swaps[n].stateTimer = some s.cfg.drainTimeout ∧ t.links = s.links ∧
         (∀ m : SlotId, m ≠ n → t.swaps[m] = s.swaps[m]) ∧
         (NoAlarmSub s → ∀ m : SlotId, t.lists[m] = movedTold s n .quiescing .latch m)) ∧
     (s.swaps[n].latchClosed = true → lines.latch = false → lines.pgood = true →
       s.cfg.latchDebounce ≤ s.swaps[n].latchCount + 1 →
       (s.swaps[n].state = .active →
         ∃ t, exec (.latchDebounced n lines) s = .next t ∧ SameMemory s t ∧ t.cfg = s.cfg ∧
           Changed (latchSampled s n lines) t n (changesFromQuiescing (latchSampled s n lines) n .latch)) ∧
       (s.swaps[n].state = .linking ∨ (s.swaps[n].state = .powering ∧ s.swaps[n].goodCount < 9) →
         ∃ t, exec (.latchDebounced n lines) s = .next t ∧ SameMemory s t ∧ t.cfg = s.cfg ∧
           Changed (latchSampled s n lines) t n [(.off, .latch)])) ∧
     (s.swaps[n].state = .off → s.swaps[n].reason = .latch → s.swaps[n].latchClosed = false → lines.latch = true →
       s.cfg.latchDebounce ≤ s.swaps[n].latchCount + 1 →
       ∃ t, exec (.latchDebounced n lines) s = .next t ∧ SameMemory s t ∧ t.cfg = s.cfg ∧
         Changed (latchSampled s n lines) t n
           (changesFromSeated (latchSampled s n lines) n s.swaps[n].powerRequest s.adm[n].draw)) ∧
     (s.swaps[n].state = .quiescing → s.swaps[n].reason = .latch → s.adm[n].shed = false →
       s.swaps[n].latchClosed = false → lines.latch = true → lines.pgood = true →
       s.cfg.latchDebounce ≤ s.swaps[n].latchCount + 1 →
       ∃ t, exec (.latchDebounced n lines) s = .next t ∧ SameMemory s t ∧ t.cfg = s.cfg ∧
         t.swaps[n].latchClosed = true ∧ t.swaps[n].state = .active ∧ t.swaps[n].stateTimer = none ∧
         t.swaps[n].retry = 0 ∧ t.links = s.links ∧ t.queues = s.queues ∧
         (∀ m : SlotId, m ≠ n → t.swaps[m] = s.swaps[m]) ∧
         (NoAlarmSub s → ∀ m : SlotId, t.lists[m] = movedTold s n .active .noReason m)) ∧
     (s.swaps[n].state = .off → s.swaps[n].reason = .latch → s.swaps[n].latchClosed = false → lines.latch = true →
       s.cfg.latchDebounce ≤ s.swaps[n].latchCount + 1 → s.cfg.slots[n].policy = .manual →
       s.swaps[n].powerRequest = false →
       ∃ t, exec (.latchDebounced n lines) s = .next t ∧ SameMemory s t ∧ t.cfg = s.cfg ∧
         t.swaps[n].latchClosed = true ∧ t.swaps[n].state = .seated ∧ t.swaps[n].readyLit = false ∧
         (∀ m : SlotId, m ≠ n → t.swaps[m] = s.swaps[m]) ∧
         (NoAlarmSub s → ∀ m : SlotId, t.lists[m] = movedTold s n .seated .noReason m)) ∧
     (s.swaps[n].state = .powering → lines.pgood = true → lines.latch = s.swaps[n].latchClosed →
       9 ≤ s.swaps[n].goodCount →
       ∃ t, exec (.pgoodSteady n lines) s = .next t ∧ SameMemory s t ∧ t.cfg = s.cfg ∧
         t.swaps[n].state = .linking ∧ t.swaps[n].pwrEn = true ∧ t.swaps[n].linkEnable = true ∧
         t.swaps[n].stateTimer = some s.cfg.linkTimeout ∧
         (s.links[n].state = .off → t.links[n].state = .aligning) ∧
         (∀ m : SlotId, m ≠ n → t.swaps[m] = s.swaps[m]) ∧
         (NoAlarmSub s → ∀ m : SlotId, t.lists[m] = movedTold s n .linking .noReason m)) ∧
     (linkEnabled s.swaps[n].state = true → lines.pgood = false → lines.latch = s.swaps[n].latchClosed →
       9 ≤ s.swaps[n].badCount →
       ∃ t, exec (.pgoodLost n lines) s = .next t ∧ SameMemory s t ∧ t.cfg = s.cfg ∧
         Handed s t n.val true ∧ Handed s t (12 + n.val) false ∧
         t.swaps[n].state = .faulted ∧ t.swaps[n].reason = .powerLost ∧ t.swaps[n].pwrEn = false ∧
         t.swaps[n].linkEnable = false ∧ t.swaps[n].retry = min 7 (s.swaps[n].retry + 1) ∧
         t.swaps[n].stateTimer = some 1000 ∧ t.links[n].state = .off ∧ t.adm[n].draw = 0 ∧
         (∀ q : QueueId, t.queues[q] = queueAfter s n q) ∧ (∀ m : SlotId, m ≠ n → t.swaps[m] = s.swaps[m]) ∧
         (NoAlarmSub s → ∀ m : SlotId, t.lists[m] = movedTold s n .faulted .powerLost m))) ∧
  (∀ (n : SlotId) (lines : Lines) (s : State), Calm s → s.swaps[n].sampleDue = true →
     lines.present = s.swaps[n].present → lines.fault = true → powered s.swaps[n].state = true →
     ∃ t, exec (.slotLineSample n lines) s = .next t ∧ SameMemory s t ∧ t.cfg = s.cfg ∧
       Handed s t n.val true ∧ t.swaps[n].state = .faulted ∧ t.swaps[n].reason = .overcurrent ∧ t.swaps[n].pwrEn = false ∧
       t.swaps[n].linkEnable = false ∧ t.swaps[n].retry = min 7 (s.swaps[n].retry + 1) ∧
       t.swaps[n].stateTimer = some 1000 ∧ t.adm[n] = { draw := 0, shed := false } ∧
       (∀ q : QueueId, t.queues[q] = queueAfter s n q) ∧ (∀ m : SlotId, m ≠ n → t.swaps[m] = s.swaps[m]) ∧
       (NoAlarmSub s → ∀ m : SlotId, t.lists[m] = movedTold s n .faulted .overcurrent m))

/-- The swap timers (R134, R135, R137, R138, R139, R142, R143, R144): the ramp and link timers and the realign limit fault the
slot, the drain timer fences it, the power-down timer turns off a slot whatever quiesced it, and the backoff seats a slot, or
locks it out. A fence with a power-down delay of 0 passes on to OFF; a slot that enters OFF with its release there goes on to
SEATED (R141), and one that is ready for power there, by the backoff too, is admitted at the same event where no other slot
ramps and its draw fits (R133, R152). READY_TO_FENCE (R9, R137): it leaves the buffer; in QUIESCING the slot is fenced, in any
other state nothing else happens. A slot that leaves the live states detaches its queues (R53), and each change hands its
notices (R53, R64, R146) and point n's condition (R144). -/
def Obligations.SwapTimersAndFence : Prop :=
  (∀ (n : SlotId) (s : State), Calm s →
     (∀ (c : Instr) (cause : Reason),
       (c = .rampTimerExpiry n ∧ cause = .ramp ∧ s.swaps[n].state = .powering ∧ s.swaps[n].stateTimer = some 0) ∨
       (c = .linkTimerExpiry n ∧ cause = .link ∧ s.swaps[n].state = .linking ∧ s.swaps[n].stateTimer = some 0) ∨
       (c = .realignLimitExpiry n ∧ cause = .linkLost ∧ live s n = true ∧ s.swaps[n].realign = some 0) →
       ∃ t, exec c s = .next t ∧ SameMemory s t ∧ t.cfg = s.cfg ∧ t.swaps[n].state = .faulted ∧ Handed s t n.val true ∧
         t.swaps[n].reason = cause ∧ t.swaps[n].pwrEn = false ∧ t.swaps[n].linkEnable = false ∧
         t.swaps[n].retry = min 7 (s.swaps[n].retry + 1) ∧ t.swaps[n].stateTimer = some 1000 ∧ t.adm[n].draw = 0 ∧
         t.adm[n].shed = false ∧ (∀ m : SlotId, m ≠ n → t.swaps[m] = s.swaps[m]) ∧
         (∀ q : QueueId, t.queues[q] = queueAfter s n q) ∧
         (NoAlarmSub s → ∀ m : SlotId, t.lists[m] = movedTold s n .faulted cause m)) ∧
     (s.swaps[n].state = .quiescing → s.swaps[n].stateTimer = some 0 → s.cfg.powerDownDelay ≠ 0 →
       ∃ t, exec (.drainTimerExpiry n) s = .next t ∧ SameMemory s t ∧ t.cfg = s.cfg ∧ t.swaps[n].state = .fenced ∧
         t.swaps[n].reason = s.swaps[n].reason ∧ t.swaps[n].stateTimer = some s.cfg.powerDownDelay ∧
         (s.links[n].state ≠ .off → t.links[n].state = .fenced) ∧
         (s.links[n].state ≠ .off → t.links[n].buffer = [] ∧ t.links[n].reads = []) ∧
         t.lists[n].entries = [] ∧ t.adm[n].draw = 0 ∧
         (∀ e ∈ t.staged, e.origin.getLsbD n.val = false) ∧
         (∀ m : SlotId, m ≠ n → t.swaps[m] = s.swaps[m]) ∧ (∀ q : QueueId, t.queues[q] = detachedFrom s n q) ∧
         (NoAlarmSub s → ∀ m : SlotId, t.lists[m] = movedTold s n .fenced s.swaps[n].reason m)) ∧
     (s.swaps[n].state = .fenced → s.swaps[n].stateTimer = some 0 →
       (s.swaps[n].reason = .command ∨ s.swaps[n].reason = .shed) →
       (s.swaps[n].reason = .shed → powerReady s n = false) →
       ∃ t, exec (.powerDownTimerExpiry n) s = .next t ∧ SameMemory s t ∧ t.cfg = s.cfg ∧ t.swaps[n].state = .off ∧
         t.swaps[n].reason = s.swaps[n].reason ∧ t.swaps[n].pwrEn = false ∧ t.swaps[n].readyLit = true ∧
         t.links[n].state = .off ∧ (∀ m : SlotId, m ≠ n → t.swaps[m] = s.swaps[m]) ∧ t.queues = s.queues ∧
         (NoAlarmSub s → ∀ m : SlotId, t.lists[m] = movedTold s n .off s.swaps[n].reason m)) ∧
     (s.swaps[n].state = .faulted → s.swaps[n].stateTimer = some 0 → powerReady s n = false →
       s.cfg.slots[n].policy ≠ .disabled →
       ∃ t, exec (.backoffTimerExpiry n) s = .next t ∧ SameMemory s t ∧ t.cfg = s.cfg ∧
         t.swaps[n].state = (if s.swaps[n].retry < s.cfg.retryLimit then .seated else .lockedOut) ∧
         t.swaps[n].retry = s.swaps[n].retry ∧ (∀ m : SlotId, m ≠ n → t.swaps[m] = s.swaps[m]) ∧ t.queues = s.queues ∧
         (NoAlarmSub s → ∀ m : SlotId, t.lists[m] =
           if s.swaps[n].retry < s.cfg.retryLimit then movedTold s n .seated .noReason m
           else movedTold s n .lockedOut s.swaps[n].reason m)) ∧
     (∀ (c : Instr) (cs : List SwapChange), s.swaps[n].stateTimer = some 0 →
       (c = .drainTimerExpiry n ∧ s.swaps[n].state = .quiescing ∧ cs = changesFromFenced s n s.swaps[n].reason) ∨
       (c = .powerDownTimerExpiry n ∧ s.swaps[n].state = .fenced ∧ cs = changesFromOff s n s.swaps[n].reason) ∨
       (c = .backoffTimerExpiry n ∧ s.swaps[n].state = .faulted ∧
         cs = (if s.swaps[n].retry < s.cfg.retryLimit then
                 changesFromSeated s n s.swaps[n].powerRequest s.adm[n].draw
               else [(.lockedOut, s.swaps[n].reason)])) →
       ∃ t, exec c s = .next t ∧ SameMemory s t ∧ t.cfg = s.cfg ∧ Changed s t n cs)) ∧
  (∀ (n : SlotId) (rest : List Request) (s : State), Calm s → s.links[n].state = .opened → s.port.waiting[n] = none →
     s.links[n].buffer = .readyToFence :: rest →
     (s.swaps[n].state ≠ .quiescing →
       ∃ t, exec (.readyToFenceTaken n) s = .next t ∧ SameMemory s t ∧ SameButLink n s t ∧ t.links[n].buffer = rest) ∧
     (s.swaps[n].state = .quiescing →
       ∃ t, exec (.readyToFenceTaken n) s = .next t ∧ SameMemory s t ∧ t.cfg = s.cfg ∧
         Changed s t n (changesFromFenced s n s.swaps[n].reason)) ∧
     (s.swaps[n].state = .quiescing → s.cfg.powerDownDelay ≠ 0 →
       ∃ t, exec (.readyToFenceTaken n) s = .next t ∧ SameMemory s t ∧ t.cfg = s.cfg ∧ t.swaps[n].state = .fenced ∧
         t.swaps[n].stateTimer = some s.cfg.powerDownDelay ∧ t.links[n].state = .fenced ∧ t.links[n].buffer = [] ∧
         (∀ m : SlotId, m ≠ n → t.swaps[m] = s.swaps[m]) ∧ (∀ q : QueueId, t.queues[q] = detachedFrom s n q) ∧
         (NoAlarmSub s → ∀ m : SlotId, t.lists[m] = movedTold s n .fenced s.swaps[n].reason m)))

/-- The head candidate, the one that ranks before every other (R151), is admitted when it fits and no slot ramps (R134, R150,
R152, R153): it enters POWERING with its draw committed, PWR_EN on and the ramp timer started, from SEATED or by way of it from
OFF(SHED), with a SWAP notice for each state entered (R146); where it does not fit or a slot ramps, nothing is admitted, and
the commands then change nothing (log entry 5, the model's choice). The choice is made at the end of every event: a POWER_ON
that makes a SEATED slot the head has it admitted, and so has the PGOOD that ends another slot's ramp. -/
def Obligations.HeadIsAdmitted : Prop :=
  (∀ (n : SlotId) (c : Instr) (s : State), (∀ p : PointId, s.cfg.points[p].shedTrigger = false) → candidate s n = true →
     (∀ m : SlotId, m ≠ n → candidate s m = true → RanksBefore s n m) →
     ((∀ m : SlotId, s.swaps[m].state ≠ .powering) → committedTotal s + s.cfg.slots[n].draw ≤ budgetInForce s →
       (c = .admitHead ∧ s.swaps[n].state = .seated ∨ c = .readmitHead ∧ s.swaps[n].state = .off) →
       ∃ t, exec c s = .next t ∧ SameMemory s t ∧ t.cfg = s.cfg ∧ t.time = s.time ∧
         t.swaps[n].state = .powering ∧ t.swaps[n].pwrEn = true ∧ t.swaps[n].stateTimer = some s.cfg.rampTimeout ∧
         t.adm[n] = { draw := s.cfg.slots[n].draw, shed := false } ∧ t.access[n] = { count := 0, last := none } ∧
         (∀ m : SlotId, m ≠ n → t.swaps[m] = s.swaps[m] ∧ t.adm[m] = s.adm[m]) ∧
         (NoAlarmSub s → ∀ m : SlotId, t.lists[m] =
           if s.swaps[n].state = .off then swapTold s n .powering .noReason m (swapTold s n .seated .noReason m s.lists[m])
           else swapTold s n .powering .noReason m s.lists[m])) ∧
     ((∃ m : SlotId, s.swaps[m].state = .powering) ∨ budgetInForce s < committedTotal s + s.cfg.slots[n].draw →
       c = .admitHead ∨ c = .readmitHead → exec c s = .next s)) ∧
  (∀ (o : Origin) (n : SlotId) (s : State), (∀ p : PointId, s.cfg.points[p].shedTrigger = false) →
     ReachesRegion s o (slotIdx n 2) → s.swaps[n].state = .seated → s.swaps[n].latchClosed = true → s.startUp = none →
     s.cfg.slots[n].policy = .manual → (∀ m : SlotId, m ≠ n → candidate s m = true → RanksBefore s n m) →
     (∀ m : SlotId, s.swaps[m].state ≠ .powering) → committedTotal s + s.cfg.slots[n].draw ≤ budgetInForce s →
     ∃ t, exec (.powerOn o n) s = .next t ∧ SameMemory s t ∧ t.cfg = s.cfg ∧ t.swaps[n].state = .powering ∧
       t.swaps[n].pwrEn = true ∧ t.swaps[n].powerRequest = true ∧ t.swaps[n].stateTimer = some s.cfg.rampTimeout ∧
       t.adm[n] = { draw := s.cfg.slots[n].draw, shed := false } ∧
       (∀ m : SlotId, m ≠ n → t.swaps[m] = s.swaps[m] ∧ t.adm[m] = s.adm[m])) ∧
  (∀ (n k : SlotId) (lines : Lines) (s : State), (∀ p : PointId, s.cfg.points[p].shedTrigger = false) →
     s.swaps[n].sampleDue = true → lines.present = s.swaps[n].present → lines.fault = false → lines.pgood = true →
     lines.latch = s.swaps[n].latchClosed → s.swaps[n].state = .powering → 9 ≤ s.swaps[n].goodCount →
     (∀ m : SlotId, m ≠ n → s.swaps[m].state ≠ .powering) → candidate s k = true →
     (∀ m : SlotId, m ≠ k → candidate s m = true → RanksBefore s k m) →
     committedTotal s + s.cfg.slots[k].draw ≤ budgetInForce s →
     ∃ t, exec (.pgoodSteady n lines) s = .next t ∧ SameMemory s t ∧ t.cfg = s.cfg ∧ t.swaps[n].state = .linking ∧
       t.swaps[k].state = .powering ∧ t.swaps[k].pwrEn = true ∧ t.swaps[k].stateTimer = some s.cfg.rampTimeout ∧
       t.adm[k] = { draw := s.cfg.slots[k].draw, shed := false } ∧
       (∀ m : SlotId, m ≠ n → m ≠ k → t.swaps[m] = s.swaps[m]))

/-- The slot commands (R130, R136, R140, R141, R144): POWER_ON sets the power request, and releases OFF(COMMAND) to SEATED;
REMOVE clears it, quiesces an ACTIVE slot, turns off a SEATED, POWERING, LINKING or FAULTED one and is the cause of one in
QUIESCING or FENCED unless that is SHED; CLEAR_LOCKOUT seats a LOCKED_OUT slot with its retry count at 0. With timers of 0 a
quiesced slot passes on to FENCED or OFF (R137, R139); a slot that POWER_ON or CLEAR_LOCKOUT makes ready for power is admitted
at the same event where no other slot ramps and its draw fits (R133, R152). -/
def Obligations.SlotCommands : Prop :=
  ∀ (o : Origin) (n : SlotId) (s : State), Calm s → ReachesRegion s o (slotIdx n 2) →
    (s.swaps[n].state ≠ .off → s.swaps[n].state ≠ .seated →
      ∃ t, exec (.powerOn o n) s = .next t ∧ SameMemory s t ∧ t.cfg = s.cfg ∧
        t.swaps[n] = { s.swaps[n] with powerRequest := true } ∧ (∀ m : SlotId, m ≠ n → t.swaps[m] = s.swaps[m]) ∧
        WaitsRegionWord t o.slot (slotIdx n 2)) ∧
    (s.swaps[n].state = .off → s.swaps[n].reason = .command → s.cfg.slots[n].policy ≠ .disabled →
      ∃ t, exec (.powerOn o n) s = .next t ∧ SameMemory s t ∧ t.cfg = s.cfg ∧
        (t.swaps[n].state = .seated ∨ t.swaps[n].state = .powering) ∧ t.swaps[n].powerRequest = true ∧
        (∀ m : SlotId, m ≠ n → t.swaps[m] = s.swaps[m])) ∧
    (s.swaps[n].state = .active → s.cfg.drainTimeout ≠ 0 →
      ∃ t, exec (.removeSlot o n) s = .next t ∧ SameMemory s t ∧ t.cfg = s.cfg ∧ t.swaps[n].state = .quiescing ∧
        t.swaps[n].reason = .command ∧ t.swaps[n].powerRequest = false ∧
        t.swaps[n].stateTimer = some s.cfg.drainTimeout ∧ (∀ m : SlotId, m ≠ n → t.swaps[m] = s.swaps[m])) ∧
    (s.swaps[n].state = .seated ∨ s.swaps[n].state = .powering ∨ s.swaps[n].state = .linking ∨
        s.swaps[n].state = .faulted →
      ∃ t, exec (.removeSlot o n) s = .next t ∧ SameMemory s t ∧ t.cfg = s.cfg ∧ t.swaps[n].state = .off ∧
        t.swaps[n].reason = .command ∧ t.swaps[n].powerRequest = false ∧ t.swaps[n].pwrEn = false ∧
        t.swaps[n].readyLit = true ∧ t.adm[n].draw = 0 ∧ (∀ m : SlotId, m ≠ n → t.swaps[m] = s.swaps[m])) ∧
    (s.swaps[n].state = .lockedOut → powerReady s n = false → s.cfg.slots[n].policy ≠ .disabled →
      ∃ t, exec (.clearLockout o n) s = .next t ∧ SameMemory s t ∧ t.cfg = s.cfg ∧ t.swaps[n].state = .seated ∧
        t.swaps[n].retry = 0 ∧ (∀ m : SlotId, m ≠ n → t.swaps[m] = s.swaps[m])) ∧
    (∃ t, exec (.powerOn o n) s = .next t ∧ SameMemory s t ∧ t.cfg = s.cfg ∧
      (let x := withRequest s n true
       let ready := mayPower x n true s.adm[n].draw
       (s.swaps[n].state = .off → s.swaps[n].reason = .command →
         Changed x t n (changesFromSeated x n true s.adm[n].draw)) ∧
       (s.swaps[n].state = .off → s.swaps[n].reason = .shed → ready = true →
         Changed x t n [(.seated, .noReason), (.powering, .noReason)]) ∧
       (s.swaps[n].state = .seated → ready = true → Changed x t n [(.powering, .noReason)]) ∧
       ((s.swaps[n].state = .off ∧ s.swaps[n].reason ≠ .command ∧ (s.swaps[n].reason = .shed → ready = false)) ∨
         (s.swaps[n].state = .seated ∧ ready = false) →
         t.swaps = x.swaps ∧ t.adm = s.adm ∧ t.queues = s.queues ∧ t.lists = s.lists))) ∧
    (∃ t, exec (.removeSlot o n) s = .next t ∧ SameMemory s t ∧ t.cfg = s.cfg ∧
      (let x := withRequest s n false
       match s.swaps[n].state with
       | .active => Changed x t n (changesFromQuiescing x n .command)
       | .seated => Changed x t n [(.off, .command)]
       | .powering => Changed x t n [(.off, .command)]
       | .linking => Changed x t n [(.off, .command)]
       | .faulted => Changed x t n [(.off, .command)]
       | .quiescing => t.swaps = x.swaps.set n { x.swaps[n] with
           reason := if s.swaps[n].reason = .shed then .shed else .command } ∧ t.lists = s.lists
       | .fenced => t.swaps = x.swaps.set n { x.swaps[n] with
           reason := if s.swaps[n].reason = .shed then .shed else .command } ∧ t.lists = s.lists
       | .empty => t.swaps = x.swaps ∧ t.lists = s.lists
       | .off => t.swaps = x.swaps ∧ t.lists = s.lists
       | .lockedOut => t.swaps = x.swaps ∧ t.lists = s.lists)) ∧
    (∃ t, exec (.clearLockout o n) s = .next t ∧ SameMemory s t ∧ t.cfg = s.cfg ∧
      (s.swaps[n].state = .lockedOut →
        (let x : State := { s with swaps := s.swaps.set n { s.swaps[n] with retry := 0 } }
         Changed x t n (changesFromSeated x n s.swaps[n].powerRequest s.adm[n].draw))) ∧
      (s.swaps[n].state ≠ .lockedOut → t = { s with links := t.links, port := t.port }))

/-- Writes of a slot record's fields (R130, R150, R151, R190, R191): the copy takes the field alone. A policy code that names
none keeps the policy. A write of DISABLED (R133, R136, R140) takes a SEATED, POWERING or LINKING slot to OFF(POLICY), quiesces
an ACTIVE one with the cause POLICY, on to FENCED and OFF with timers of 0 (R137, R139), and makes POLICY the cause in
QUIESCING and FENCED unless that is SHED; a write of AUTO or MANUAL over DISABLED releases OFF(POLICY) to SEATED (R141), and a
slot it makes ready for power is admitted at the same event where no other slot ramps and its draw fits (R133, R152, R153).
That a write of the policy the slot already has acts too is deduced (log entry 8). Clearing the last control right is held; a
committed draw does not follow a write of the draw. Writes of the budgets (R149, R155, R156, R157): the copy takes the field,
clamped to 4,095, and after the write the unmarked draws are within the budget in force: the slots that the budget marks for
shedding, from the last in the admission order on, act by their swap state, and no other slot changes. -/
def Obligations.SlotRecordWrites : Prop :=
  (∀ (o : Origin) (n : SlotId) (s : State), s.cfg.InRange → ReachesRegion s o (slotIdx n 0) →
     (∀ policy : BitVec 2, ∃ t, exec (.slotPolicyWrite o n policy) s = .next t ∧ SameMemory s t ∧ t.time = s.time ∧
       t.cfg = { s.cfg with slots := s.cfg.slots.set n { s.cfg.slots[n] with
         policy := if policy = 0#2 then .auto else if policy = 1#2 then .manual else if policy = 2#2 then .disabled
                   else s.cfg.slots[n].policy } } ∧
       (Calm s → policy = 2#2 →
         (let x : State := { s with cfg := t.cfg }
          match s.swaps[n].state with
          | .seated => Changed x t n [(.off, .policy)]
          | .powering => Changed x t n [(.off, .policy)]
          | .linking => Changed x t n [(.off, .policy)]
          | .active => Changed x t n (changesFromQuiescing x n .policy)
          | .quiescing => t.swaps = s.swaps.set n { s.swaps[n] with
              reason := if s.swaps[n].reason = .shed then .shed else .policy } ∧ t.lists = s.lists
          | .fenced => t.swaps = s.swaps.set n { s.swaps[n] with
              reason := if s.swaps[n].reason = .shed then .shed else .policy } ∧ t.lists = s.lists
          | .empty => t = { s with links := t.links, port := t.port, cfg := t.cfg }
          | .off => t = { s with links := t.links, port := t.port, cfg := t.cfg }
          | .faulted => t = { s with links := t.links, port := t.port, cfg := t.cfg }
          | .lockedOut => t = { s with links := t.links, port := t.port, cfg := t.cfg })) ∧
       (Calm s → policy = 0#2 ∨ policy = 1#2 →
         (let x : State := { s with cfg := t.cfg }
          let w := s.swaps[n]
          let ready := mayPower x n w.powerRequest s.adm[n].draw
          (w.state = .off → w.reason = .policy → s.cfg.slots[n].policy = .disabled →
            Changed x t n (changesFromSeated x n w.powerRequest s.adm[n].draw)) ∧
          (w.state = .seated → ready = true → Changed x t n [(.powering, .noReason)]) ∧
          (w.state = .off → w.reason = .shed → ready = true →
            Changed x t n [(.seated, .noReason), (.powering, .noReason)]) ∧
          ((w.state = .off → w.reason = .policy → s.cfg.slots[n].policy ≠ .disabled) →
            (w.state = .seated ∨ (w.state = .off ∧ w.reason = .shed) → ready = false) →
            t = { s with links := t.links, port := t.port, cfg := t.cfg })))) ∧
     (∀ draw : BitVec 10, ∃ t, exec (.slotDrawWrite o n draw) s = .next t ∧ SameMemory s t ∧ t.time = s.time ∧
       t.cfg = { s.cfg with slots := s.cfg.slots.set n { s.cfg.slots[n] with draw := draw.toNat } } ∧
       (Calm s → t = { s with links := t.links, port := t.port, cfg := t.cfg })) ∧
     (∀ priority : BitVec 3, ∃ t, exec (.shedPriorityWrite o n priority) s = .next t ∧ SameMemory s t ∧ t.time = s.time ∧
       t.cfg = { s.cfg with slots := s.cfg.slots.set n { s.cfg.slots[n] with shedPriority := priority.toNat } } ∧
       (Calm s → t = { s with links := t.links, port := t.port, cfg := t.cfg })) ∧
     (∀ right : Bool, ∃ t, exec (.controlRightWrite o n right) s = .next t ∧ SameMemory s t ∧ t.time = s.time ∧
       t.cfg = { s.cfg with slots := s.cfg.slots.set n { s.cfg.slots[n] with
         right := if right = false ∧ (∀ m : SlotId, m ≠ n → s.cfg.slots[m].right = false) then s.cfg.slots[n].right
                  else right } })) ∧
  (∀ (o : Origin) (v : BitVec 16) (s : State), s.cfg.InRange → ReachesRegion s o (globalIdx 9) →
     (∃ t, exec (.budgetWrite o (.mains v)) s = .next t ∧ SameMemory s t ∧ t.time = s.time ∧
       t.cfg = { s.cfg with mains := min 4095 v.toNat } ∧ unmarkedTotal t ≤ budgetInForce t ∧
       (Calm s → s.cfg.drainTimeout ≠ 0 →
         ShedBy s t (if s.onBattery then s.cfg.battery else min 4095 v.toNat))) ∧
     (∃ t, exec (.budgetWrite o (.battery v)) s = .next t ∧ SameMemory s t ∧ t.time = s.time ∧
       t.cfg = { s.cfg with battery := min 4095 v.toNat } ∧ unmarkedTotal t ≤ budgetInForce t ∧
       (Calm s → s.cfg.drainTimeout ≠ 0 →
         ShedBy s t (if s.onBattery then min 4095 v.toNat else s.cfg.mains))))

/-! ## Alarm points and relays (chapter 10) -/

/-- A level point whose condition changes (R158, R161, R162): enabled, CLEAR goes to RISING, or to RAISED with a raise debounce
of 0; RISING back to CLEAR; RAISED to FALLING, or to CLEAR with a clear debounce of 0, unless its latch holds it
unacknowledged; FALLING back to RAISED; disabled, it keeps the condition alone; a condition handed again changes nothing, and
no other point changes. The debounce of a level point ends (R161, R162, R166): RISING goes to RAISED with its count grown and
its acked flag clear, FALLING to CLEAR. Where the report loses nothing, it hands an ALARM notice to each live slot whose
subscription the severity meets, and a log record, unless there is no log, with the change, the raise count, the time and the
value; where the point is the one that carries the shed-trigger mark, its raise puts the battery budget in force and its clear
the mains budget, and the budget that comes into force marks and sheds as R155 and R156 say, an ACTIVE slot receiving its SWAP
notice (R64, R146, R149); an absent channel result counts as 0 there by the model's choice (log entry 49). -/
def Obligations.PointDebouncesEnd : Prop :=
  (∀ (p : PointId) (level : Bool) (s : State), isEvent s p = false →
    (takeInput (.cond p level) s).1.points[p] = handedLevel s.cfg.points[p] level s.points[p] ∧
    ∀ q : PointId, q ≠ p → (takeInput (.cond p level) s).1.points[q] = s.points[q]) ∧
  (∀ (p : PointId) (s : State), (∀ n : SlotId, candidate s n = false) → isEvent s p = false → s.points[p].timer = some 0 →
    s.cfg.points[p].shedTrigger = true → (∀ q : PointId, q ≠ p → s.cfg.points[q].shedTrigger = false) →
    s.cfg.drainTimeout ≠ 0 →
    (s.points[p].state = .rising → ShedKeeps s s.cfg.battery p →
      ∃ t, exec (.raiseDebounceExpiry p) s = .next t ∧ SameMemory s t ∧ t.cfg = s.cfg ∧
        t.points[p] = { s.points[p] with state := .raised, acked := false, count := min 65535 (s.points[p].count + 1),
                                         timer := none } ∧
        t.onBattery = true ∧ unmarkedTotal t ≤ s.cfg.battery ∧ ShedBy s t s.cfg.battery ∧ ShedTold s t s.cfg.battery) ∧
    (s.points[p].state = .falling → ShedKeeps s s.cfg.mains p →
      ∃ t, exec (.clearDebounceExpiry p) s = .next t ∧ SameMemory s t ∧ t.cfg = s.cfg ∧
        t.points[p] = { s.points[p] with state := .clear, acked := false, timer := none } ∧
        t.onBattery = false ∧ unmarkedTotal t ≤ s.cfg.mains ∧ ShedBy s t s.cfg.mains ∧ ShedTold s t s.cfg.mains)) ∧
  ∀ (p : PointId) (s : State), Calm s → isEvent s p = false → s.points[p].timer = some 0 →
    (s.points[p].state = .rising →
      ∃ t, exec (.raiseDebounceExpiry p) s = .next t ∧ SameMemory s t ∧ SameButReports s t ∧
        t.points[p] = { s.points[p] with state := .raised, acked := false, count := min 65535 (s.points[p].count + 1),
                                         timer := none } ∧
        (LosesNothing s p →
          (∀ m : SlotId, t.lists[m] = alarmTold s p .raised .raised false m s.lists[m]) ∧
          t.log =
            if s.cfg.logCode = 0 then s.log
            else { s.log with accept := (s.log.accept + 1) % 65536,
                              queue := s.log.queue ++ [LogRecord.mk s.log.accept
                                (changeRecord s p .raised (min 65535 (s.points[p].count + 1)) (recordValue s p))] })) ∧
    (s.points[p].state = .falling →
      ∃ t, exec (.clearDebounceExpiry p) s = .next t ∧ SameMemory s t ∧ SameButReports s t ∧
        t.points[p] = { s.points[p] with state := .clear, acked := false, timer := none } ∧
        (LosesNothing s p →
          (∀ m : SlotId, t.lists[m] = alarmTold s p .clear .clear false m s.lists[m]) ∧
          t.log =
            if s.cfg.logCode = 0 then s.log
            else { s.log with accept := (s.log.accept + 1) % 65536,
                              queue := s.log.queue ++ [LogRecord.mk s.log.accept
                                (changeRecord s p .clear s.points[p].count (recordValue s p))] }))

/-- ACK of a point and ACK ALL (R164), where no live slot subscribes to alarms; a point number outside 0..57 has no effect. The
points named act in ascending order, and no other point changes, but for point 57: where the log drops a record of an
acknowledgement while point 57 is not active, or that of its own clearing, it is raised, or raised again, at the event's end
(R183; log entry 17 for the place). Where nothing is dropped or was lost the records are an ACK for each point acknowledged,
with a CLEAR behind it where the point goes to CLEAR (R166). -/
def Obligations.AckActsOnPoints : Prop :=
  ∀ (o : Origin) (s : State), Calm s → ReachesRegion s o (globalIdx 1) →
    (∀ m : SlotId, live s m = true → s.cfg.slots[m].alarmSub = false) →
    (∀ (c : Instr) (ps : List PointId),
      (∃ p : PointId, c = .ackPoint o (BitVec.ofNat 8 p.val) ∧ ps = [p]) ∨ (c = .ackAll o ∧ ps = List.finRange 58) →
      ∃ t, exec c s = .next t ∧ SameMemory s t ∧ SameButReports { s with links := t.links, port := t.port } t ∧
        t.lists = s.lists ∧ WaitsRegionWord t o.slot (globalIdx 1) ∧
        (∀ q : PointId, q ≠ 57 → t.points[q] = if q ∈ ps then ackedPoint s q else s.points[q]) ∧
        (s.cfg.logCode ≤ 12 →
          (let x := if (57 : PointId) ∈ ps then ackedPoint s 57 else s.points[(57 : PointId)]
           t.points[(57 : PointId)] =
             if s.cfg.points[(57 : PointId)].enable = true ∧ active x = false ∧
                 dropsOneOf s (ps.flatMap (ackRecords s)).length = true then raisedPoint x
             else x) ∧
          (s.cfg.logCode ≠ 0 → s.log.lost = 0 → dropsOneOf s (ps.flatMap (ackRecords s)).length = false →
            t.log.queue.map LogRecord.draft = s.log.queue.map LogRecord.draft ++ ps.flatMap (ackRecords s)) ∧
          (s.cfg.logCode = 0 → t.log = s.log))) ∧
    (∀ k : BitVec 8, 58 ≤ k.toNat → ∃ t, exec (.ackPoint o k) s = .next t ∧ SameMemory s t ∧
      t = { s with links := t.links, port := t.port } ∧ WaitsRegionWord t o.slot (globalIdx 1))

/-- Writes of a point record's fields (R159, R165): the copy takes the field alone, and a point disabled is CLEAR, its acked
flag clear and its timer stopped, its raise count kept. A level point enabled with its condition present acts as one whose
condition becomes present, any other point enabled stays as it is. A point made unlatched whose condition record is absent acts
as one whose condition becomes absent, unlatched, and an event point, which behaves as latched whatever its field says, stays
RAISED until acknowledged. A write of the severity or the relay marks, of the latched field otherwise, or of the shed trigger
where the point stays without an active mark, changes no point. Setting the mark of an active point, the only one marked, puts
the battery budget in force, and clearing it the mains budget; the budget that comes into force marks and sheds as R155 and
R156 say, an ACTIVE slot receiving its SWAP notice (R64, R146, R149). -/
def Obligations.PointRecordWrites : Prop :=
  ∀ (o : Origin) (p : PointId) (s : State), ReachesRegion s o (pointIdx p 0) →
    (∀ (c : Instr) (new : PointCfg),
      ((∃ b, c = .pointEnableWrite o p b ∧ new = { s.cfg.points[p] with enable := b }) ∨
        (∃ b, c = .pointLatchedWrite o p b ∧ new = { s.cfg.points[p] with latched := b }) ∨
        (∃ v, c = .pointSeverityWrite o p v ∧ new = { s.cfg.points[p] with severity := severityOf v.toNat }) ∨
        (∃ v, c = .pointRelayMarksWrite o p v ∧ new = { s.cfg.points[p] with relays := v }) ∨
        (∃ b, c = .pointShedTriggerWrite o p b ∧ new = { s.cfg.points[p] with shedTrigger := b })) →
      ∃ t, exec c s = .next t ∧ SameMemory s t ∧ t.time = s.time ∧ t.scan = s.scan ∧
        t.cfg = { s.cfg with points := s.cfg.points.set p new }) ∧
    (Calm s → s.cfg.points[p].enable = true → s.points[p].state ≠ .clear →
      ∃ t, exec (.pointEnableWrite o p false) s = .next t ∧
        t.points[p] = { s.points[p] with state := .clear, acked := if active s.points[p] then false else s.points[p].acked,
                                         timer := none }) ∧
    (Calm s → s.cfg.points[p].enable = false →
      ∃ t, exec (.pointEnableWrite o p true) s = .next t ∧
        SameButReports { s with links := t.links, port := t.port, cfg := t.cfg } t ∧
        (∀ q : PointId, q ≠ p → q ≠ 55 → q ≠ 57 → t.points[q] = s.points[q]) ∧
        t.points[p] =
          if s.points[p].cond = true ∧ isEvent s p = false then presentPoint s.cfg.points[p] s.points[p] else s.points[p]) ∧
    (Calm s → s.cfg.points[p].enable = true → s.cfg.points[p].latched = true →
      ∃ t, exec (.pointLatchedWrite o p false) s = .next t ∧
        SameButReports { s with links := t.links, port := t.port, cfg := t.cfg } t ∧
        (∀ q : PointId, q ≠ p → q ≠ 55 → q ≠ 57 → t.points[q] = s.points[q]) ∧
        (p ≠ 55 → p ≠ 57 → t.points[p] =
          if s.points[p].cond = false then absentPoint s.cfg.points[p] (isEvent s p) s.points[p] else s.points[p])) ∧
    (∀ c : Instr, Calm s →
      (∃ b, c = .pointLatchedWrite o p b ∧ (b = true ∨ s.cfg.points[p].latched = false ∨ s.cfg.points[p].enable = false)) ∨
      (∃ b, c = .pointEnableWrite o p b ∧ b = s.cfg.points[p].enable) ∨ (∃ v, c = .pointSeverityWrite o p v) ∨
      (∃ v, c = .pointRelayMarksWrite o p v) ∨
      (∃ b, c = .pointShedTriggerWrite o p b ∧ (b = false ∨ s.points[p].state = .clear ∨ s.points[p].state = .rising)) →
      ∃ t, exec c s = .next t ∧ t.points = s.points ∧ t.lists = s.lists ∧ t.log = s.log) ∧
    (s.points[p].state = .raised ∨ s.points[p].state = .falling → (∀ n : SlotId, candidate s n = false) →
      (∀ q : PointId, q ≠ p → s.cfg.points[q].shedTrigger = false) → s.cfg.drainTimeout ≠ 0 →
      ∀ (old : Bool) (B : Nat), s.cfg.points[p].shedTrigger = old → B = (if old then s.cfg.mains else s.cfg.battery) →
        (old = false → ShedKeeps s B p) →
        ∃ t, exec (.pointShedTriggerWrite o p (!old)) s = .next t ∧ t.onBattery = !old ∧ unmarkedTotal t ≤ B ∧
          ShedBy s t B ∧ ShedTold s t B)

/-- The relay commands and a relay's configuration (R168, R170, R171, R172): the force state of the relays named, the
configuration with an unnamed mode code kept, and every output as its position and polarity give it. -/
def Obligations.RelaysAreForced : Prop :=
  ∀ (o : Origin) (s : State), Calm s →
    (∀ (c : Instr) (mask : BitVec 4) (f : Force),
      (c = .relayOn o mask ∧ f = .on ∧ ReachesRegion s o (globalIdx 6)) ∨
      (c = .relayOff o mask ∧ f = .off ∧ ReachesRegion s o (globalIdx 7)) ∨
      (c = .relayFollow o mask ∧ f = .follow ∧ ReachesRegion s o (globalIdx 8)) →
      ∃ t, exec c s = .next t ∧ SameMemory s t ∧ t = { s with links := t.links, port := t.port, relays := t.relays } ∧
        ∀ k : RelayId, t.relays[k].force = (if mask.getLsbD k.val then f else s.relays[k].force) ∧
          t.relays[k].alarm = relayAlarm s k ∧
          t.relays[k].energised =
            ((match t.relays[k].force with
              | .follow => relayAlarm s k
              | .on => true
              | .off => false) != s.cfg.relays[k].deenergise)) ∧
    (∀ (k : RelayId) (threshold mode : BitVec 2) (polarity : Bool),
      ReachesRegion s o (globalIdx ⟨37 + k.val, by omega⟩) →
      ∃ t, exec (.relayConfigWrite o k threshold mode polarity) s = .next t ∧ SameMemory s t ∧
        t = { s with links := t.links, port := t.port, cfg := t.cfg, relays := t.relays } ∧
        t.cfg = { s.cfg with relays := (s.cfg.relays.set k
          { threshold := severityOf threshold.toNat,
            mode := if mode = 0#2 then .anyActive else if mode = 1#2 then .anyUnacked else if mode = 2#2 then .allActive
                    else s.cfg.relays[k].mode,
            deenergise := polarity }) } ∧
        ∀ x : RelayId, t.relays[x].force = s.relays[x].force ∧ t.relays[x].alarm = relayAlarm t x ∧
          t.relays[x].energised =
            ((match s.relays[x].force with
              | .follow => relayAlarm t x
              | .on => true
              | .off => false) != t.cfg.relays[x].deenergise))

/-! ## Environment inputs (chapter 11) -/

/-- The contacts (R173, R174): a contact's sample of a tick is kept, once; where it changes, the contact's point takes the
condition of a level mode, or, enabled, the event of an edge mode its edge matches, from RISING as deduced (log entry 20);
where it does not change, nothing else does. That the row is one contact's sample is the model's reading (log entry 53), and
that one which is not due changes nothing its choice (log entry 5). A sense-mode code that names none keeps the mode. In a
level mode a point moves with its condition as R161 and R162 say. A write of the sense mode (R165) from an edge mode to a level
mode has the point judge the contact's level as a change of its condition; from a level mode to an edge mode, its absence,
latched: a RAISED point stays RAISED unless acknowledged, which then lets it fall as deduced (log entry 41). -/
def Obligations.ContactsAreSampled : Prop :=
  (∀ (i : ContactId) (level : Bool) (s : State),
    (s.contactDue[i] = false → exec (.contactSample { contact := i, level := level }) s = .next s) ∧
    (s.contactDue[i] = true →
      ∃ t, exec (.contactSample { contact := i, level := level }) s = .next t ∧ SameMemory s t ∧ t.cfg = s.cfg ∧
        t.contacts = s.contacts.set i level ∧ t.contactDue = s.contactDue.set i false ∧
        (Calm s → level = s.contacts[i] → t = { s with contactDue := t.contactDue }) ∧
        (∀ p : PointId, Calm s → p.val = 24 + i.val → level ≠ s.contacts[i] →
          (s.cfg.senses[i] = .levelHigh → t.points[p] = handedLevel s.cfg.points[p] level s.points[p]) ∧
          (s.cfg.senses[i] = .levelLow → t.points[p] = handedLevel s.cfg.points[p] (!level) s.points[p]) ∧
          (s.cfg.senses[i] = .levelHigh → t.points[p].cond = level) ∧
          (s.cfg.senses[i] = .levelLow → t.points[p].cond = !level) ∧
          (s.cfg.points[p].enable = true →
            (s.cfg.senses[i] = .anyEdge ∨ (s.cfg.senses[i] = .rising ∧ level = true) ∨
              (s.cfg.senses[i] = .falling ∧ level = false)) →
            t.points[p] = { s.points[p] with state := .raised, acked := false,
                                             count := min 65535 (s.points[p].count + 1), timer := none })))) ∧
  (∀ (o : Origin) (i : ContactId) (mode : BitVec 3) (s : State), ReachesRegion s o (globalIdx 25) →
    ∃ t, exec (.senseModeWrite o i mode) s = .next t ∧ SameMemory s t ∧ t.contacts = s.contacts ∧
      t.cfg = { s.cfg with senses := (s.cfg.senses.set i
        (if mode = 0#3 then .levelHigh else if mode = 1#3 then .levelLow else if mode = 2#3 then .rising
         else if mode = 3#3 then .falling else if mode = 4#3 then .anyEdge else s.cfg.senses[i])) } ∧
      (∀ (p : PointId) (old new : SenseMode) (level : Bool), Calm s → p.val = 24 + i.val → old = s.cfg.senses[i] →
        new = t.cfg.senses[i] → level = (if new = .levelLow then !s.contacts[i] else s.contacts[i]) →
        t.points[p] =
          match edgeMode old, edgeMode new with
          | true, true => s.points[p]
          | true, false => judgedLevel s.cfg.points[p] s.cfg.points[p].latched level s.points[p]
          | false, true => judgedLevel s.cfg.points[p] true false s.points[p]
          | false, false => handedLevel s.cfg.points[p] level s.points[p]))

/-- Passes of the converter (R177, R178): an interval expiry or a SCAN_NOW with no pass running starts one at the
lowest-numbered enabled channel, and with none enabled ends at once; with a pass running the expiry is skipped and counted, and
SCAN_NOW sets the pending mark. A conversion of channel j completes, 2,500 oscillator periods into it (R176, R177, R180; log
entry 10): its result is floor(Vin × 1024 / Vref + 0.5) within 0..1023, its two conditions follow the thresholds with their
hysteresis and are handed to points 32 + j and 40 + j, and the converter goes on to the next enabled channel above, or the pass
ends; with the pending mark set the mark clears and a new pass starts at that event. That the interval timer starts again at
the command that takes its expiry is deduced (log entry 14). -/
def Obligations.ConverterPasses : Prop :=
  (∀ (first : Option ChannelId) (s : State),
     LowestEnabled s.cfg first →
     (s.scan.timer = some 0 →
       ∃ t, exec .scanIntervalExpiry s = .next t ∧ SameMemory s t ∧ t = { s with scan := t.scan } ∧
         t.scan =
           if s.scan.running then
             { s.scan with timer := some s.cfg.scanInterval, skipped := min 65535 (s.scan.skipped + 1) }
           else { s.scan with timer := some s.cfg.scanInterval, running := first.isSome, converting := first, periods := 0 }) ∧
     (∀ o : Origin, ReachesRegion s o (globalIdx 2) →
       ∃ t, exec (.scanNow o) s = .next t ∧ SameMemory s t ∧ t.cfg = s.cfg ∧ t.channels = s.channels ∧
         t.scan =
           if s.scan.running then { s.scan with pendingPass := true }
           else { s.scan with running := first.isSome, converting := first, periods := 0 })) ∧
  (∀ (j : ChannelId) (vin : Int) (vref res : Nat) (s : State), 0 < vref → s.scan.converting = some j →
     2500 ≤ s.scan.periods → (res : Int) = max 0 (min 1023 ((2048 * vin + vref) / (2 * vref))) →
     ∃ t, exec (.conversionComplete vin vref) s = .next t ∧ SameMemory s t ∧ t.cfg = s.cfg ∧ t.time = s.time ∧
       (∀ i : ChannelId, i ≠ j → t.channels[i] = s.channels[i]) ∧ t.channels[j].result = some res ∧
       (Calm s → Handed s t (32 + j.val) t.channels[j].high ∧ Handed s t (40 + j.val) t.channels[j].low) ∧
       t.channels[j].high =
         (if s.cfg.channels[j].high ≤ res then true
          else if res + s.cfg.channels[j].hysteresis < s.cfg.channels[j].high then false else s.channels[j].high) ∧
       t.channels[j].low =
         (if res ≤ s.cfg.channels[j].low then true
          else if s.cfg.channels[j].low + s.cfg.channels[j].hysteresis < res then false else s.channels[j].low) ∧
       (∀ k : ChannelId, j < k → s.cfg.channels[k].enable = true →
         (∀ i : ChannelId, j < i → i < k → s.cfg.channels[i].enable = false) →
         t.scan = { s.scan with converting := some k, periods := 0 }) ∧
       ((∀ i : ChannelId, j < i → s.cfg.channels[i].enable = false) → s.scan.pendingPass = false →
         t.scan = { s.scan with running := false, converting := none, periods := 0 }) ∧
       ((∀ i : ChannelId, j < i → s.cfg.channels[i].enable = false) → s.scan.pendingPass = true →
         ∀ first : Option ChannelId, LowestEnabled s.cfg first →
           t.scan = { s.scan with running := first.isSome, converting := first, periods := 0, pendingPass := false }))

/-- A write of a channel's configuration (R175, R179): the copy takes its four fields; a conversion of that channel is
abandoned with its result kept, and the converter goes on to the next enabled channel above, or ends the pass, as at a
completion (R177, R178); any other conversion goes on; a channel the write disables has both conditions absent, which its
points are handed. -/
def Obligations.ChannelWrites : Prop :=
  ∀ (o : Origin) (j : ChannelId) (low high : BitVec 10) (hysteresis : BitVec 8) (enable : Bool) (s : State),
    ReachesRegion s o (globalIdx ⟨26 + j.val, by omega⟩) →
    ∃ t, exec (.channelConfigWrite o j low high hysteresis enable) s = .next t ∧ SameMemory s t ∧ t.time = s.time ∧
      t.cfg = { s.cfg with channels := (s.cfg.channels.set j
        { low := low.toNat, high := high.toNat, hysteresis := hysteresis.toNat, enable := enable }) } ∧
      (∀ i : ChannelId, i ≠ j → t.channels[i] = s.channels[i]) ∧ t.channels[j].result = s.channels[j].result ∧
      (s.cfg.channels[j].enable = true → enable = false → t.channels[j].high = false ∧ t.channels[j].low = false ∧
        (Calm s → Handed s t (32 + j.val) false ∧ Handed s t (40 + j.val) false)) ∧
      (s.cfg.channels[j].enable = false ∨ enable = true → t.channels[j] = s.channels[j]) ∧
      (s.scan.converting ≠ some j → t.scan = s.scan) ∧
      (s.scan.converting = some j →
        (s.scan.pendingPass = false → t.scan.converting ≠ some j) ∧
        (∀ k : ChannelId, j < k → s.cfg.channels[k].enable = true →
          (∀ i : ChannelId, j < i → i < k → s.cfg.channels[i].enable = false) →
          t.scan = { s.scan with converting := some k, periods := 0 }) ∧
        ((∀ i : ChannelId, j < i → s.cfg.channels[i].enable = false) →
          (s.scan.pendingPass = false → t.scan = { s.scan with running := false, converting := none, periods := 0 }) ∧
          (s.scan.pendingPass = true → ∀ first : Option ChannelId, LowestEnabled t.cfg first →
            t.scan = { s.scan with running := first.isSome, converting := first, periods := 0, pendingPass := false })))

/-! ## Alarm log (chapter 12) -/

/-- A record handed to the log writer (R183, R184): discarded with no log; accepted with the accept index as its sequence
number where there is room and nothing was lost; dropped and counted where there is none, with an event of point 57 unless it
is active; and after a loss a LOST record goes in first, with point 57's severity and raise count, the time of the record it
precedes and the lost count, which becomes 0; the record behind it is then judged for room, and counted as lost where there is
none. -/
def Obligations.RecordsAreJudged : Prop :=
  ∀ (d : LogDraft) (room : Bool) (s : State),
    room = decide (index16 s.log.accept s.cfg.logRead < 2 ^ s.cfg.logCode ∧ s.log.queue.length < 128) →
    (s.cfg.logCode = 0 → takeRecord d s = (s, [])) ∧
    (s.cfg.logCode ≠ 0 → room = true → s.log.lost = 0 →
      takeRecord d s =
        ({ s with log := { s.log with accept := (s.log.accept + 1) % 65536,
                                      queue := s.log.queue ++ [{ seq := s.log.accept, draft := d }] } }, [])) ∧
    (s.cfg.logCode ≠ 0 → room = false →
      (takeRecord d s).1 = { s with log := { s.log with lost := min 65535 (s.log.lost + 1) } } ∧
      (takeRecord d s).2 = if active s.points[(57 : PointId)] then [] else [.logLoss]) ∧
    (takeInput .logLoss s = if active s.points[(57 : PointId)] then (s, []) else takeInput (.event 57) s) ∧
    (s.cfg.logCode ≠ 0 → room = true → s.log.lost ≠ 0 →
      ∀ l : LogRecord,
        l = { seq := s.log.accept,
              draft := { kind := .lost, point := 57, severity := s.cfg.points[(57 : PointId)].severity,
                         count := s.points[(57 : PointId)].count, sec := d.sec, ns := d.ns, value := s.log.lost } } →
        (index16 ((s.log.accept + 1) % 65536) s.cfg.logRead < 2 ^ s.cfg.logCode ∧ s.log.queue.length + 1 < 128 →
          takeRecord d s =
            ({ s with log := { s.log with accept := (s.log.accept + 2) % 65536, lost := 0,
                                          queue := s.log.queue ++
                                            [l, { seq := (s.log.accept + 1) % 65536, draft := d }] } }, [])) ∧
        (2 ^ s.cfg.logCode ≤ index16 ((s.log.accept + 1) % 65536) s.cfg.logRead ∨ 128 ≤ s.log.queue.length + 1 →
          takeRecord d s =
            ({ s with log := { s.log with accept := (s.log.accept + 1) % 65536, lost := 1,
                                          queue := s.log.queue ++ [l] } },
              if active s.points[(57 : PointId)] then [] else [.logLoss])))

/-- A log transaction completes (R185): its words are in memory and no other byte changes, its record leaves the queue and the
write index grows by 1; the record stands at its place in the ring, word by word as section 13.6 lays it out (R182). Writes of
the log's configuration and read index (R181, R182): held while records stand unread or where the ring may not lie, past the
memory fitted or over a byte of the control region, a valid group or a ring that is not CLOSED; a read index that would make
the unread count grow is held. That the capacity code is the whole word, and the lost count is cleared by a whole word of 0
alone, is deduced (log entry 34). -/
def Obligations.LogWrites : Prop :=
  (∀ (ws : List WriteWord) (r : LogRecord) (rest : List LogRecord) (s : State), s.port.flight = some (.log ws) →
     s.log.queue = r :: rest →
     ∃ t, exec .logWriteComplete s = .next t ∧
       t = { s with mem := t.mem, port := { s.port with flight := none },
                    log := { s.log with queue := rest, write := (s.log.write + 1) % 65536 } } ∧
       t.mem = writeWords s.mem ws ∧
       (∀ a : Nat, (∀ w ∈ ws, a < w.addr ∨ w.addr + 4 ≤ a) → readByte t.mem a = readByte s.mem a) ∧
       (s.MemoryOk → s.LogOk → ∀ (j : Nat) (w : Word), (recordImage r)[j]? = some w → ∀ b, b < 4 →
         readByte t.mem (s.cfg.logBase + r.seq % 2 ^ s.cfg.logCode * 16 + 4 * j + b) =
           BitVec.ofNat 8 (w.toNat / 2 ^ (8 * b)))) ∧
  (∀ (base code : Nat) (s : State), s.cfg.InRange → (logClash s base code = false ↔ LogClear s base code)) ∧
  (∀ (o : Origin) (s : State), Calm s →
     (∀ (v : Word) (base : Nat), ReachesRegion s o (globalIdx 34) → base = v.toNat % 2 ^ 28 / 16 * 16 →
       ∃ t, exec (.logConfigWrite o (.base v)) s = .next t ∧ SameMemory s t ∧
         t = { s with links := t.links, port := t.port, cfg := t.cfg } ∧
         t.cfg = if s.log.accept ≠ s.cfg.logRead ∨ logClash s base s.cfg.logCode = true then s.cfg
                 else { s.cfg with logBase := base }) ∧
     (∀ (v : Word) (code : Nat), ReachesRegion s o (globalIdx 35) →
       code = (if v.toNat = 0 ∨ (4 ≤ v.toNat ∧ v.toNat ≤ 12) then v.toNat else s.cfg.logCode) →
       ∃ t, exec (.logConfigWrite o (.capacity v)) s = .next t ∧ SameMemory s t ∧
         t = { s with links := t.links, port := t.port, cfg := t.cfg, log := t.log } ∧
         t.cfg = (if s.log.accept ≠ s.cfg.logRead ∨ logClash s s.cfg.logBase code = true then s.cfg
                  else { s.cfg with logCode := code }) ∧
         t.log = if s.log.accept = s.cfg.logRead ∧ v = 0#32 then { s.log with lost := 0 } else s.log) ∧
     (∀ index : BitVec 16, ReachesRegion s o (globalIdx 36) →
       ∃ t, exec (.logReadIndexWrite o index) s = .next t ∧ SameMemory s t ∧
         t = { s with links := t.links, port := t.port, cfg := t.cfg } ∧
         t.cfg = if (s.log.write + 65536 - s.cfg.logRead % 65536) % 65536 <
                     (s.log.write + 65536 - index.toNat) % 65536 then s.cfg
                 else { s.cfg with logRead := index.toNat }))

/-! ## Control region and resets (chapter 13) -/

/-- Writes of window records, group configurations and queue descriptors (R20, R39, R73, R191): each field as its rule judges
it, a kind or rights code that names none keeping the old one, holds keeping the record: a group's range while it has entries
or is COMMITTING, its valid field while it has entries, is ARMED or is COMMITTING, and any field that would leave a valid range
past the memory fitted or over a byte that is not free for it (R73). -/
def Obligations.RecordWrites : Prop :=
  ∀ (o : Origin) (s : State), s.cfg.InRange →
    (∀ (w : WindowId) (v : Word) (c : WindowCfg), c = s.cfg.windows[w] →
      (ReachesRegion s o (windowIdx w 0) → ∃ t, exec (.windowRecordWrite o w 0 v) s = .next t ∧ SameMemory s t ∧
        t.cfg = { s.cfg with windows := (s.cfg.windows.set w
          { c with valid := v.getLsbD 0, kind := kindOf c.kind (v.toNat / 2 ^ 4 % 2 ^ 3),
                   rights := rightsOf c.rights (v.toNat / 2 ^ 8 % 2 ^ 2),
                   size := max 12 (min 28 (v.toNat / 2 ^ 16 % 2 ^ 5)),
                   group := ⟨v.toNat / 2 ^ 24 % 2 ^ 4, Nat.mod_lt _ (by decide)⟩ }) }) ∧
      (ReachesRegion s o (windowIdx w 1) → ∃ t, exec (.windowRecordWrite o w 1 v) s = .next t ∧ SameMemory s t ∧
        t.cfg = { s.cfg with windows := s.cfg.windows.set w { c with localBase := v.toNat / 4096 * 4096 } }) ∧
      (ReachesRegion s o (windowIdx w 2) → ∃ t, exec (.windowRecordWrite o w 2 v) s = .next t ∧ SameMemory s t ∧
        t.cfg = { s.cfg with windows := (s.cfg.windows.set w
          { c with physBase := v.toNat % 2 ^ 28 / 4096 * 4096 }) })) ∧
    (∀ (g : GroupId) (field : GroupField) (k : Fin 4) (c : GroupCfg),
      (match field with
        | .valid v => k = 0 ∧ c = { s.cfg.groups[g] with valid := v }
        | .base v => k = 1 ∧ c = { s.cfg.groups[g] with base := v.toNat % 2 ^ 28 / 4096 * 4096 }
        | .size v => k = 2 ∧ c = { s.cfg.groups[g] with pages := max 1 (min 256 v.toNat) }) →
      ReachesRegion s o (groupIdx g k) →
      ∃ t, exec (.groupConfigWrite o g field) s = .next t ∧ SameMemory s t ∧
        t.cfg = if groupHeld s g k.val c then s.cfg else { s.cfg with groups := s.cfg.groups.set g c }) ∧
    (∀ (g : GroupId) (k : Nat) (c : GroupCfg), 1 ≤ c.pages →
      (groupHeld s g k c = false ↔
        GroupClear s g c ∧
          (k = 0 → c.valid = false → (∀ e ∈ s.staged, e.group ≠ g) ∧ s.groups[g].state = .opened) ∧
          (k ≠ 0 → (∀ e ∈ s.staged, e.group ≠ g) ∧ s.groups[g].state ≠ .committing))) ∧
    (∀ (q : QueueId) (field : QueueField) (k : Fin 4) (c d : QueueCfg), d = s.cfg.queues[q] →
      (match field with
        | .base v => k = 0 ∧ c = { d with base := v.toNat % 2 ^ 28 / 64 * 64 }
        | .cellSize v => k = 1 ∧ c = { d with cellSize := max 4 (min 8 v.toNat) }
        | .cellCount v => k = 1 ∧ c = { d with cellCount := max 1 (min 12 v.toNat) }
        | .producer v => k = 1 ∧ c = { d with producer := v.toNat }
        | .consumer v => k = 1 ∧ c = { d with consumer := v.toNat }
        | .high v => k = 2 ∧ c = { d with high := max 1 (min (2 ^ d.cellCount) v.toNat) }
        | .low v => k = 2 ∧ c = { d with low := min (d.high - 1) v.toNat }) →
      ReachesRegion s o (queueIdx q k) →
      ∃ t, exec (.queueDescriptorWrite o q field) s = .next t ∧ SameMemory s t ∧
        t.cfg = if s.queues[q].state = .closed then { s.cfg with queues := s.cfg.queues.set q c } else s.cfg)

/-- A write of any region word by a slot that holds the right (R189, R190, R191): the word formed takes each enabled byte from
the write, bit k of the enables standing for byte k by the model's choice (log entry 51), and the others from the copy; the
write changes no byte of memory yet and no other word of the copy. The words of the settings (section 13.6) take their fields
from the word formed, each clamped to its range, and so do a slot's subscriptions (R63) and a point's debounces (R159); a word
that belongs to no field, word 3 of a slot, window or group record among them, changes nothing. The word joins the slot's
transaction whole. -/
def Obligations.RegionWordsAreFormed : Prop :=
  ∀ (o : Origin) (idx : RegionIdx) (data : Word) (be : Mask) (w : Word) (f : Nat) (s : State), ReachesRegion s o idx →
    w = mergeBytes (image s.cfg idx) data be → f = w.toNat →
    (∀ b, b < 4 → f / 2 ^ (8 * b) % 256 =
      (if be.getLsbD b then data.toNat / 2 ^ (8 * b) % 256 else (image s.cfg idx).toNat / 2 ^ (8 * b) % 256)) ∧
    (∃ t, exec (.controlRegionWrite o idx data be) s = .next t ∧ SameMemory s t ∧
      (∀ x : RegionIdx, x ≠ idx → image t.cfg x = image s.cfg x) ∧
      (match idx.val with
        | 3 => t.cfg = { s.cfg with secondsLow := f }
        | 4 => t.cfg = { s.cfg with secondsHigh := f % 2 ^ 16 }
        | 10 => t.cfg = { s.cfg with linkThreshold := max 1 (min 65535 (f % 2 ^ 16)) }
        | 11 => t.cfg = { s.cfg with presentDebounce := max 1 (min 1000 (f % 2 ^ 16)),
                                     latchDebounce := max 1 (min 1000 (f / 2 ^ 16)) }
        | 12 => t.cfg = { s.cfg with rampTimeout := max 10 (min 5000 (f % 2 ^ 16)),
                                     linkTimeout := max 100 (min 10000 (f / 2 ^ 16)) }
        | 13 => t.cfg = { s.cfg with drainTimeout := min 10000 (f % 2 ^ 16), powerDownDelay := min 5000 (f / 2 ^ 16) }
        | 14 => t.cfg = { s.cfg with retryLimit := max 1 (min 7 (f % 2 ^ 3)) }
        | 16 => t.cfg = { s.cfg with refs := s.cfg.refs.set 0 { s.cfg.refs[0] with delay := min 999999 (f % 2 ^ 20) } }
        | 18 => t.cfg = { s.cfg with refs := s.cfg.refs.set 1 { s.cfg.refs[1] with delay := min 999999 (f % 2 ^ 20) } }
        | 19 => t.cfg = { s.cfg with gate := max 100 (min 10000000 (f % 2 ^ 24)) }
        | 20 => t.cfg = { s.cfg with missLimit := max 1 (min 7 (f % 2 ^ 3)), lockCount := max 1 (min 15 (f / 2 ^ 8 % 2 ^ 4)),
                                     ki := f / 2 ^ 16 % 2 ^ 3, kp := f / 2 ^ 24 % 2 ^ 3 }
        | 21 => t.cfg = { s.cfg with stepThreshold := max 100 (min 1000000 (f % 2 ^ 20)) }
        | 22 => t.cfg = { s.cfg with lockWindow := max 10 (min 100000 (f % 2 ^ 17)) }
        | 23 => t.cfg = { s.cfg with holdoverLimit := min 86400 (f % 2 ^ 17) }
        | 24 => t.cfg = { s.cfg with scanInterval := max 10 (min 10000 (f % 2 ^ 14)) }
        | _ => True) ∧
      (∀ n : SlotId, idx = slotIdx n 1 → t.cfg = { s.cfg with slots := (s.cfg.slots.set n
        { s.cfg.slots[n] with frameSub := w.getLsbD 0, alarmSub := w.getLsbD 1,
                              alarmThreshold := severityOf (f / 2 ^ 4 % 2 ^ 2), swapSub := w.getLsbD 8 }) }) ∧
      (∀ p : PointId, idx = pointIdx p 1 → t.cfg = { s.cfg with points := (s.cfg.points.set p
        { s.cfg.points[p] with raiseDebounce := f % 2 ^ 16, clearDebounce := f / 2 ^ 16 }) }) ∧
      (idx.val = 3 ∨ idx.val = 4 ∨ (10 ≤ idx.val ∧ idx.val ≤ 14) ∨ idx.val = 16 ∨ (18 ≤ idx.val ∧ idx.val ≤ 24) →
        t.time = s.time ∧ (Calm s → WaitsRegionWord t o.slot idx)) ∧
      (Calm s → (41 ≤ idx.val ∧ idx.val < 64) ∨ (112 ≤ idx.val ∧ idx.val < 128) ∨ 948 ≤ idx.val ∨
          (∃ n : SlotId, idx = slotIdx n 3) ∨ (∃ i : WindowId, idx = windowIdx i 3) ∨
          (∃ g : GroupId, idx = groupIdx g 3) →
        t = { s with links := t.links, port := t.port } ∧ WaitsRegionWord t o.slot idx))

/-- WARM_RESET (R18, R36, R56, R70, R92, R125, R188, R194): with no group COMMITTING it empties the buffers and outstanding
reads, withdraws waiting READs, closes the queues, empties the notice lists and the staging list, and clears the TIME latches
and change marks; a held card is released by a GO (R18), a HOLD still pending being taken back by R10 instead, as deduced (log
entry 26), and a waiting zeroing is withdrawn (R56); configuration, memory, cabinet time, slots, points and the log stay. With
a group COMMITTING it is pending. -/
def Obligations.WarmResets : Prop :=
  ∀ (s : State), Calm s →
    (∀ (c : Instr), (c = .warmResetCarriedOut ∧ s.warmPending = true) ∨
        (∃ o, c = .warmReset o ∧ ReachesRegion s o (globalIdx 0)) →
      (∀ g : GroupId, s.groups[g].state ≠ .committing) →
      ∃ t, exec c s = .next t ∧ SameMemory s t ∧
        t = { s with warmPending := false, links := t.links, port := t.port, queues := t.queues, lists := t.lists,
                     groups := t.groups, staged := [], latches := t.latches, marks := t.marks } ∧
        (∀ n : SlotId, t.links[n].buffer = [] ∧ t.links[n].reads = [] ∧ t.links[n].state = s.links[n].state ∧
          t.lists[n] = { entries := [], overflow := false } ∧ t.latches[n] = { sec := 0, frame := 0, loop := .free } ∧
          t.marks[n] = { swap := 0#12, points := 0#58 } ∧
          (∀ id addrs held, t.port.waiting[n] ≠ some (.read id addrs held)) ∧
          (∀ ws kept, s.port.waiting[n] = some (.write ws kept) → t.port.waiting[n] = some (.write ws kept)) ∧
          t.links[n] =
            { s.links[n] with buffer := [], reads := [], holdFlag := false,
                              mark := if s.links[n].holdFlag then
                                        (if s.links[n].mark = some .hold then none else some .go)
                                      else s.links[n].mark,
                              failRun := t.links[n].failRun } ∧
          (∀ o : Origin, c = .warmReset o → t.links[n].failRun = if o.slot = n then 0 else s.links[n].failRun) ∧
          (c = .warmResetCarriedOut → t.links[n].failRun = s.links[n].failRun)) ∧
        t.port.zeroing = none ∧ t.port.flight = s.port.flight ∧ t.port.commit = s.port.commit ∧
        (∀ o : Origin, c = .warmReset o → WaitsRegionWord t o.slot (globalIdx 0)) ∧
        (∀ q : QueueId, t.queues[q] = { s.queues[q] with state := .closed }) ∧
        (∀ g : GroupId, t.groups[g] =
          { s.groups[g] with state := .opened, pendingArm := none, torn := false, entryCount := 0 })) ∧
    (∀ (o : Origin) (g : GroupId), ReachesRegion s o (globalIdx 0) → s.groups[g].state = .committing →
      ∃ t, exec (.warmReset o) s = .next t ∧ SameMemory s t ∧
        t = { s with warmPending := true, links := t.links, port := t.port } ∧ WaitsRegionWord t o.slot (globalIdx 0))

/-- A start-up transaction completes (R193): sixteen region words in memory hold the copy's, no byte outside them changes, and
the 256th ends cold start-up. That they go upward from the region's first byte is the model's choice (log entry 60). -/
def Obligations.StartUpWrites : Prop :=
  ∀ (k : Nat) (s : State), s.MemoryOk → s.startUp = some k → k < 256 →
    ∃ t, exec .coldStartUpWriteComplete s = .next t ∧ t.cfg = s.cfg ∧ t.time = s.time ∧
      t.startUp = (if k = 255 then none else some (k + 1)) ∧
      (∀ a : Nat, a < regionBase s + 64 * k ∨ regionBase s + 64 * k + 64 ≤ a → readByte t.mem a = readByte s.mem a) ∧
      (∀ (i : Fin 16) (b : Nat) (idx : RegionIdx), b < 4 → idx.val = 16 * k + i.val →
        readByte t.mem (regionBase s + 4 * idx.val + b) = BitVec.ofNat 8 ((image s.cfg idx).toNat / 2 ^ (8 * b)))
end

