-- ==== Sys2Proof/Laws/Memory.lean ====
section
/-! SUPPORT. Shared memory: every write keeps the canonical form, a read after a write to the same place gives the value
written, and a write leaves every other place alone. -/

namespace Sys2Proof.Machine

open Sys2Proof

/-! ## The canonical form -/

theorem Memory.wfFrom_cons (lo k : Nat) (v : Byte) (rest : Memory) :
    Memory.wfFrom lo ((k, v) :: rest) = true ↔ lo ≤ k ∧ v ≠ Config.fillByte ∧ Memory.wfFrom (k + 1) rest = true := by
  simp [Memory.wfFrom, and_assoc]

theorem Memory.wfFrom_mono {lo lo' : Nat} (h : lo' ≤ lo) {m : Memory} (hm : Memory.wfFrom lo m = true) :
    Memory.wfFrom lo' m = true := by
  cases m with
  | nil => rfl
  | cons e rest =>
    obtain ⟨k, v⟩ := e
    rw [Memory.wfFrom_cons] at hm ⊢
    exact ⟨le_trans h hm.1, hm.2⟩

theorem writeByte_wfFrom {lo : Nat} {m : Memory} (hm : Memory.wfFrom lo m = true) {a : Nat} (ha : lo ≤ a) (b : Byte) :
    Memory.wfFrom lo (writeByte m a b) = true := by
  induction m generalizing lo with
  | nil => by_cases hb : b = Config.fillByte <;> simp [writeByte, hb, Memory.wfFrom, ha]
  | cons e rest ih =>
    obtain ⟨k, v⟩ := e
    rw [Memory.wfFrom_cons] at hm
    obtain ⟨hk, hv, hr⟩ := hm
    unfold writeByte
    by_cases h1 : a < k
    · by_cases hb : b = Config.fillByte
      · simp [h1, hb, Memory.wfFrom_cons, hk, hv, hr]
      · simp [h1, hb, Memory.wfFrom_cons, ha, hv, hr, Nat.succ_le_of_lt h1]
    · by_cases h2 : a = k
      · by_cases hb : b = Config.fillByte
        · simp only [h1, h2, hb, if_true, if_false, lt_self_iff_false]
          exact Memory.wfFrom_mono (by omega) hr
        · subst h2; simp [hb, Memory.wfFrom_cons, hk, hr]
      · have h3 : k + 1 ≤ a := by omega
        simp [h1, h2, Memory.wfFrom_cons, hk, hv, ih hr h3]

/-- A byte written keeps the canonical form. -/
theorem writeByte_wf {m : Memory} (hm : Memory.wf m = true) (a : Nat) (b : Byte) :
    Memory.wf (writeByte m a b) = true := writeByte_wfFrom hm (Nat.zero_le a) b

theorem writeLane_wf {m : Memory} (hm : Memory.wf m = true) (a : Nat) (w : Word) (mask : Mask) (k : Nat) :
    Memory.wf (writeLane m a w mask k) = true := by
  unfold writeLane; split
  · exact writeByte_wf hm _ _
  · exact hm

/-- A word written keeps the canonical form. -/
theorem writeWord_wf {m : Memory} (hm : Memory.wf m = true) (a : Nat) (w : Word) (mask : Mask) :
    Memory.wf (writeWord m a w mask) = true :=
  writeLane_wf (writeLane_wf (writeLane_wf (writeLane_wf hm _ _ _ _) _ _ _ _) _ _ _ _) _ _ _ _

/-- A transaction's words written keep the canonical form. -/
theorem writeWords_wf {m : Memory} (hm : Memory.wf m = true) (ws : List WriteWord) :
    Memory.wf (writeWords m ws) = true := by
  induction ws generalizing m with
  | nil => exact hm
  | cons w rest ih => exact ih (writeWord_wf hm _ _ _)

/-! ## Reading after writing -/

theorem readByte_of_wfFrom {lo : Nat} {m : Memory} (hm : Memory.wfFrom lo m = true) {a : Nat} (ha : a < lo) :
    readByte m a = Config.fillByte := by
  induction m generalizing lo with
  | nil => rfl
  | cons e rest ih =>
    obtain ⟨k, v⟩ := e
    rw [Memory.wfFrom_cons] at hm
    have : k ≠ a := by omega
    simp [readByte, this, ih hm.2.2 (by omega)]

theorem readByte_writeByte_from {lo : Nat} {m : Memory} (hm : Memory.wfFrom lo m = true) (a b : Nat) (x : Byte) :
    readByte (writeByte m a x) b = if b = a then x else readByte m b := by
  induction m generalizing lo with
  | nil =>
    by_cases hx : x = Config.fillByte <;> by_cases hb : b = a <;>
      simp [writeByte, readByte, hx, hb, eq_comm]
    all_goals intro h; exact absurd h.symm hb
  | cons e rest ih =>
    obtain ⟨k, v⟩ := e
    rw [Memory.wfFrom_cons] at hm
    obtain ⟨hk, hv, hr⟩ := hm
    unfold writeByte
    by_cases h1 : a < k
    · have hr' : Memory.wfFrom k ((k, v) :: rest) = true := by
        rw [Memory.wfFrom_cons]; exact ⟨le_refl _, hv, hr⟩
      by_cases hx : x = Config.fillByte
      · by_cases hb : b = a
        · subst hb; subst hx; simp only [h1, if_true]; exact readByte_of_wfFrom hr' h1
        · simp [h1, hx, hb]
      · by_cases hb : b = a
        · subst hb; simp [h1, hx, readByte]
        · have : a ≠ b := fun h => hb h.symm
          simp [h1, hx, readByte, hb, this]
    · by_cases h2 : a = k
      · subst h2
        by_cases hx : x = Config.fillByte
        · by_cases hb : b = a
          · subst hb; subst hx
            simp only [lt_self_iff_false, if_true, if_false]
            exact readByte_of_wfFrom hr (by omega)
          · have : a ≠ b := fun h => hb h.symm
            simp [hx, hb, readByte, this]
        · by_cases hb : b = a
          · subst hb; simp [hx, readByte]
          · have : a ≠ b := fun h => hb h.symm
            simp [hx, readByte, hb, this]
      · simp only [h1, h2, if_false]
        by_cases hkb : k = b
        · subst hkb
          have : k ≠ a := fun h => h2 h.symm
          simp [readByte, this]
        · simp [readByte, hkb, ih hr]

/-- A byte read after a byte written: the one written at its place, the old one anywhere else. -/
theorem readByte_writeByte {m : Memory} (hm : Memory.wf m = true) (a b : Nat) (x : Byte) :
    readByte (writeByte m a x) b = if b = a then x else readByte m b := readByte_writeByte_from hm a b x

/-- A byte written leaves every other byte alone, whatever the memory. -/
theorem readByte_writeByte_ne (m : Memory) {a b : Nat} (h : b ≠ a) (x : Byte) :
    readByte (writeByte m a x) b = readByte m b := by
  induction m with
  | nil =>
    by_cases hx : x = Config.fillByte
    · simp [writeByte, hx]
    · simp [writeByte, hx, readByte, h.symm]
  | cons e rest ih =>
    obtain ⟨k, v⟩ := e
    unfold writeByte
    split
    · split
      · rfl
      · simp [readByte, h.symm]
    · split
      · rename_i _ h2
        split
        · simp [readByte, show k ≠ b from fun hk => h (by omega)]
        · simp [readByte, h.symm, show k ≠ b from fun hk => h (by omega)]
      · simp only [readByte]; split
        · rfl
        · exact ih

theorem readByte_writeLane {m : Memory} (hm : Memory.wf m = true) (a : Nat) (w : Word) (mask : Mask) (k b : Nat) :
    readByte (writeLane m a w mask k) b = if b = a + k ∧ mask.getLsbD k = true then wordByte w k else readByte m b := by
  unfold writeLane
  split
  · rename_i h; rw [readByte_writeByte hm]; simp [h]
  · rename_i h; simp [h]

/-- A byte read after a word written: byte k of the word where the mask has bit k, the old byte anywhere else (R33). -/
theorem readByte_writeWord {m : Memory} (hm : Memory.wf m = true) (a : Nat) (w : Word) (mask : Mask) (b : Nat) :
    readByte (writeWord m a w mask) b =
      if a ≤ b ∧ b < a + 4 ∧ mask.getLsbD (b - a) = true then wordByte w (b - a) else readByte m b := by
  have h0 := writeLane_wf hm a w mask 0
  have h1 := writeLane_wf h0 a w mask 1
  have h2 := writeLane_wf h1 a w mask 2
  unfold writeWord
  rw [readByte_writeLane h2, readByte_writeLane h1, readByte_writeLane h0, readByte_writeLane hm]
  by_cases hr : a ≤ b ∧ b < a + 4
  · obtain ⟨d, rfl⟩ : ∃ d, b = a + d := ⟨b - a, by omega⟩
    have hd : d = 0 ∨ d = 1 ∨ d = 2 ∨ d = 3 := by omega
    rcases hd with rfl | rfl | rfl | rfl <;> simp
  · rw [if_neg, if_neg, if_neg, if_neg, if_neg] <;> omega

theorem readByte_writeLane_ne (m : Memory) {a b k : Nat} (h : b ≠ a + k) (w : Word) (mask : Mask) :
    readByte (writeLane m a w mask k) b = readByte m b := by
  unfold writeLane; split
  · exact readByte_writeByte_ne m h _
  · rfl

/-- A word written leaves every byte outside its four alone, whatever the memory. -/
theorem readByte_writeWord_ne (m : Memory) {a b : Nat} (h : b < a ∨ a + 4 ≤ b) (w : Word) (mask : Mask) :
    readByte (writeWord m a w mask) b = readByte m b := by
  unfold writeWord
  rw [readByte_writeLane_ne _ (by omega), readByte_writeLane_ne _ (by omega), readByte_writeLane_ne _ (by omega),
    readByte_writeLane_ne _ (by omega)]

/-- A transaction's words leave every byte outside them alone (R35). -/
theorem readByte_writeWords_ne (ws : List WriteWord) (m : Memory) {b : Nat}
    (h : ∀ w ∈ ws, b < w.addr ∨ w.addr + 4 ≤ b) : readByte (writeWords m ws) b = readByte m b := by
  induction ws generalizing m with
  | nil => rfl
  | cons w rest ih =>
    have hw := h w (by simp)
    have hr : ∀ x ∈ rest, b < x.addr ∨ x.addr + 4 ≤ b := fun x hx => h x (List.mem_cons_of_mem _ hx)
    show readByte (writeWords (writeWord m w.addr w.data w.mask) rest) b = _
    rw [ih _ hr, readByte_writeWord_ne m hw]

/-- Reset memory lists nothing, so it has the canonical form. -/
theorem Memory.wf_nil : Memory.wf [] = true := rfl

end Sys2Proof.Machine
end

