-- ==== Sys2Proof/Laws/State.lean ====
section
/-! SUPPORT. One lemma per field per update of Machine/Update.lean, so that no later proof unfolds a record update; and what a
changed table reads at each of its places. -/

namespace Sys2Proof.Machine

open Sys2Proof

/-! ## modLink -/

section modLink

variable (s : State) (i : SlotId) (f : LinkPort → LinkPort)

@[simp] theorem State.modLink_pending : (s.modLink i f).pending = s.pending := rfl
@[simp] theorem State.modLink_memSize : (s.modLink i f).memSize = s.memSize := rfl
@[simp] theorem State.modLink_regionTop : (s.modLink i f).regionTop = s.regionTop := rfl
@[simp] theorem State.modLink_startUp : (s.modLink i f).startUp = s.startUp := rfl
@[simp] theorem State.modLink_warmPending : (s.modLink i f).warmPending = s.warmPending := rfl
@[simp] theorem State.modLink_cfg : (s.modLink i f).cfg = s.cfg := rfl
@[simp] theorem State.modLink_mem : (s.modLink i f).mem = s.mem := rfl
@[simp] theorem State.modLink_access : (s.modLink i f).access = s.access := rfl
@[simp] theorem State.modLink_port : (s.modLink i f).port = s.port := rfl
@[simp] theorem State.modLink_queues : (s.modLink i f).queues = s.queues := rfl
@[simp] theorem State.modLink_lists : (s.modLink i f).lists = s.lists := rfl
@[simp] theorem State.modLink_groups : (s.modLink i f).groups = s.groups := rfl
@[simp] theorem State.modLink_staged : (s.modLink i f).staged = s.staged := rfl
@[simp] theorem State.modLink_rounds : (s.modLink i f).rounds = s.rounds := rfl
@[simp] theorem State.modLink_serving : (s.modLink i f).serving = s.serving := rfl
@[simp] theorem State.modLink_time : (s.modLink i f).time = s.time := rfl
@[simp] theorem State.modLink_refs : (s.modLink i f).refs = s.refs := rfl
@[simp] theorem State.modLink_frame : (s.modLink i f).frame = s.frame := rfl
@[simp] theorem State.modLink_latches : (s.modLink i f).latches = s.latches := rfl
@[simp] theorem State.modLink_swaps : (s.modLink i f).swaps = s.swaps := rfl
@[simp] theorem State.modLink_adm : (s.modLink i f).adm = s.adm := rfl
@[simp] theorem State.modLink_onBattery : (s.modLink i f).onBattery = s.onBattery := rfl
@[simp] theorem State.modLink_points : (s.modLink i f).points = s.points := rfl
@[simp] theorem State.modLink_relays : (s.modLink i f).relays = s.relays := rfl
@[simp] theorem State.modLink_log : (s.modLink i f).log = s.log := rfl
@[simp] theorem State.modLink_contacts : (s.modLink i f).contacts = s.contacts := rfl
@[simp] theorem State.modLink_contactDue : (s.modLink i f).contactDue = s.contactDue := rfl
@[simp] theorem State.modLink_channels : (s.modLink i f).channels = s.channels := rfl
@[simp] theorem State.modLink_scan : (s.modLink i f).scan = s.scan := rfl
@[simp] theorem State.modLink_marks : (s.modLink i f).marks = s.marks := rfl

/-- What the table reads after the change. -/
theorem State.modLink_get (j : SlotId) : (s.modLink i f).links[j] = if i = j then f s.links[j] else s.links[j] := by
  by_cases h : i = j
  · subst h; simp [State.modLink]
  · have h' : i.val ≠ j.val := fun e => h (Fin.ext e)
    simp [State.modLink, h, Vector.getElem_set, h']

@[simp] theorem State.modLink_get_self : (s.modLink i f).links[i] = f s.links[i] := by simp [State.modLink]

theorem State.modLink_get_ne (j : SlotId) (h : i ≠ j) : (s.modLink i f).links[j] = s.links[j] := by
  rw [State.modLink_get, if_neg h]

end modLink

/-! ## modAccess -/

section modAccess

variable (s : State) (i : SlotId) (f : AccessRecord → AccessRecord)

@[simp] theorem State.modAccess_pending : (s.modAccess i f).pending = s.pending := rfl
@[simp] theorem State.modAccess_memSize : (s.modAccess i f).memSize = s.memSize := rfl
@[simp] theorem State.modAccess_regionTop : (s.modAccess i f).regionTop = s.regionTop := rfl
@[simp] theorem State.modAccess_startUp : (s.modAccess i f).startUp = s.startUp := rfl
@[simp] theorem State.modAccess_warmPending : (s.modAccess i f).warmPending = s.warmPending := rfl
@[simp] theorem State.modAccess_cfg : (s.modAccess i f).cfg = s.cfg := rfl
@[simp] theorem State.modAccess_mem : (s.modAccess i f).mem = s.mem := rfl
@[simp] theorem State.modAccess_links : (s.modAccess i f).links = s.links := rfl
@[simp] theorem State.modAccess_port : (s.modAccess i f).port = s.port := rfl
@[simp] theorem State.modAccess_queues : (s.modAccess i f).queues = s.queues := rfl
@[simp] theorem State.modAccess_lists : (s.modAccess i f).lists = s.lists := rfl
@[simp] theorem State.modAccess_groups : (s.modAccess i f).groups = s.groups := rfl
@[simp] theorem State.modAccess_staged : (s.modAccess i f).staged = s.staged := rfl
@[simp] theorem State.modAccess_rounds : (s.modAccess i f).rounds = s.rounds := rfl
@[simp] theorem State.modAccess_serving : (s.modAccess i f).serving = s.serving := rfl
@[simp] theorem State.modAccess_time : (s.modAccess i f).time = s.time := rfl
@[simp] theorem State.modAccess_refs : (s.modAccess i f).refs = s.refs := rfl
@[simp] theorem State.modAccess_frame : (s.modAccess i f).frame = s.frame := rfl
@[simp] theorem State.modAccess_latches : (s.modAccess i f).latches = s.latches := rfl
@[simp] theorem State.modAccess_swaps : (s.modAccess i f).swaps = s.swaps := rfl
@[simp] theorem State.modAccess_adm : (s.modAccess i f).adm = s.adm := rfl
@[simp] theorem State.modAccess_onBattery : (s.modAccess i f).onBattery = s.onBattery := rfl
@[simp] theorem State.modAccess_points : (s.modAccess i f).points = s.points := rfl
@[simp] theorem State.modAccess_relays : (s.modAccess i f).relays = s.relays := rfl
@[simp] theorem State.modAccess_log : (s.modAccess i f).log = s.log := rfl
@[simp] theorem State.modAccess_contacts : (s.modAccess i f).contacts = s.contacts := rfl
@[simp] theorem State.modAccess_contactDue : (s.modAccess i f).contactDue = s.contactDue := rfl
@[simp] theorem State.modAccess_channels : (s.modAccess i f).channels = s.channels := rfl
@[simp] theorem State.modAccess_scan : (s.modAccess i f).scan = s.scan := rfl
@[simp] theorem State.modAccess_marks : (s.modAccess i f).marks = s.marks := rfl

/-- What the table reads after the change. -/
theorem State.modAccess_get (j : SlotId) : (s.modAccess i f).access[j] = if i = j then f s.access[j] else s.access[j] := by
  by_cases h : i = j
  · subst h; simp [State.modAccess]
  · have h' : i.val ≠ j.val := fun e => h (Fin.ext e)
    simp [State.modAccess, h, Vector.getElem_set, h']

@[simp] theorem State.modAccess_get_self : (s.modAccess i f).access[i] = f s.access[i] := by simp [State.modAccess]

theorem State.modAccess_get_ne (j : SlotId) (h : i ≠ j) : (s.modAccess i f).access[j] = s.access[j] := by
  rw [State.modAccess_get, if_neg h]

end modAccess

/-! ## modQueue -/

section modQueue

variable (s : State) (i : QueueId) (f : Queue → Queue)

@[simp] theorem State.modQueue_pending : (s.modQueue i f).pending = s.pending := rfl
@[simp] theorem State.modQueue_memSize : (s.modQueue i f).memSize = s.memSize := rfl
@[simp] theorem State.modQueue_regionTop : (s.modQueue i f).regionTop = s.regionTop := rfl
@[simp] theorem State.modQueue_startUp : (s.modQueue i f).startUp = s.startUp := rfl
@[simp] theorem State.modQueue_warmPending : (s.modQueue i f).warmPending = s.warmPending := rfl
@[simp] theorem State.modQueue_cfg : (s.modQueue i f).cfg = s.cfg := rfl
@[simp] theorem State.modQueue_mem : (s.modQueue i f).mem = s.mem := rfl
@[simp] theorem State.modQueue_links : (s.modQueue i f).links = s.links := rfl
@[simp] theorem State.modQueue_access : (s.modQueue i f).access = s.access := rfl
@[simp] theorem State.modQueue_port : (s.modQueue i f).port = s.port := rfl
@[simp] theorem State.modQueue_lists : (s.modQueue i f).lists = s.lists := rfl
@[simp] theorem State.modQueue_groups : (s.modQueue i f).groups = s.groups := rfl
@[simp] theorem State.modQueue_staged : (s.modQueue i f).staged = s.staged := rfl
@[simp] theorem State.modQueue_rounds : (s.modQueue i f).rounds = s.rounds := rfl
@[simp] theorem State.modQueue_serving : (s.modQueue i f).serving = s.serving := rfl
@[simp] theorem State.modQueue_time : (s.modQueue i f).time = s.time := rfl
@[simp] theorem State.modQueue_refs : (s.modQueue i f).refs = s.refs := rfl
@[simp] theorem State.modQueue_frame : (s.modQueue i f).frame = s.frame := rfl
@[simp] theorem State.modQueue_latches : (s.modQueue i f).latches = s.latches := rfl
@[simp] theorem State.modQueue_swaps : (s.modQueue i f).swaps = s.swaps := rfl
@[simp] theorem State.modQueue_adm : (s.modQueue i f).adm = s.adm := rfl
@[simp] theorem State.modQueue_onBattery : (s.modQueue i f).onBattery = s.onBattery := rfl
@[simp] theorem State.modQueue_points : (s.modQueue i f).points = s.points := rfl
@[simp] theorem State.modQueue_relays : (s.modQueue i f).relays = s.relays := rfl
@[simp] theorem State.modQueue_log : (s.modQueue i f).log = s.log := rfl
@[simp] theorem State.modQueue_contacts : (s.modQueue i f).contacts = s.contacts := rfl
@[simp] theorem State.modQueue_contactDue : (s.modQueue i f).contactDue = s.contactDue := rfl
@[simp] theorem State.modQueue_channels : (s.modQueue i f).channels = s.channels := rfl
@[simp] theorem State.modQueue_scan : (s.modQueue i f).scan = s.scan := rfl
@[simp] theorem State.modQueue_marks : (s.modQueue i f).marks = s.marks := rfl

/-- What the table reads after the change. -/
theorem State.modQueue_get (j : QueueId) : (s.modQueue i f).queues[j] = if i = j then f s.queues[j] else s.queues[j] := by
  by_cases h : i = j
  · subst h; simp [State.modQueue]
  · have h' : i.val ≠ j.val := fun e => h (Fin.ext e)
    simp [State.modQueue, h, Vector.getElem_set, h']

@[simp] theorem State.modQueue_get_self : (s.modQueue i f).queues[i] = f s.queues[i] := by simp [State.modQueue]

theorem State.modQueue_get_ne (j : QueueId) (h : i ≠ j) : (s.modQueue i f).queues[j] = s.queues[j] := by
  rw [State.modQueue_get, if_neg h]

end modQueue

/-! ## modList -/

section modList

variable (s : State) (i : SlotId) (f : NoticeList → NoticeList)

@[simp] theorem State.modList_pending : (s.modList i f).pending = s.pending := rfl
@[simp] theorem State.modList_memSize : (s.modList i f).memSize = s.memSize := rfl
@[simp] theorem State.modList_regionTop : (s.modList i f).regionTop = s.regionTop := rfl
@[simp] theorem State.modList_startUp : (s.modList i f).startUp = s.startUp := rfl
@[simp] theorem State.modList_warmPending : (s.modList i f).warmPending = s.warmPending := rfl
@[simp] theorem State.modList_cfg : (s.modList i f).cfg = s.cfg := rfl
@[simp] theorem State.modList_mem : (s.modList i f).mem = s.mem := rfl
@[simp] theorem State.modList_links : (s.modList i f).links = s.links := rfl
@[simp] theorem State.modList_access : (s.modList i f).access = s.access := rfl
@[simp] theorem State.modList_port : (s.modList i f).port = s.port := rfl
@[simp] theorem State.modList_queues : (s.modList i f).queues = s.queues := rfl
@[simp] theorem State.modList_groups : (s.modList i f).groups = s.groups := rfl
@[simp] theorem State.modList_staged : (s.modList i f).staged = s.staged := rfl
@[simp] theorem State.modList_rounds : (s.modList i f).rounds = s.rounds := rfl
@[simp] theorem State.modList_serving : (s.modList i f).serving = s.serving := rfl
@[simp] theorem State.modList_time : (s.modList i f).time = s.time := rfl
@[simp] theorem State.modList_refs : (s.modList i f).refs = s.refs := rfl
@[simp] theorem State.modList_frame : (s.modList i f).frame = s.frame := rfl
@[simp] theorem State.modList_latches : (s.modList i f).latches = s.latches := rfl
@[simp] theorem State.modList_swaps : (s.modList i f).swaps = s.swaps := rfl
@[simp] theorem State.modList_adm : (s.modList i f).adm = s.adm := rfl
@[simp] theorem State.modList_onBattery : (s.modList i f).onBattery = s.onBattery := rfl
@[simp] theorem State.modList_points : (s.modList i f).points = s.points := rfl
@[simp] theorem State.modList_relays : (s.modList i f).relays = s.relays := rfl
@[simp] theorem State.modList_log : (s.modList i f).log = s.log := rfl
@[simp] theorem State.modList_contacts : (s.modList i f).contacts = s.contacts := rfl
@[simp] theorem State.modList_contactDue : (s.modList i f).contactDue = s.contactDue := rfl
@[simp] theorem State.modList_channels : (s.modList i f).channels = s.channels := rfl
@[simp] theorem State.modList_scan : (s.modList i f).scan = s.scan := rfl
@[simp] theorem State.modList_marks : (s.modList i f).marks = s.marks := rfl

/-- What the table reads after the change. -/
theorem State.modList_get (j : SlotId) : (s.modList i f).lists[j] = if i = j then f s.lists[j] else s.lists[j] := by
  by_cases h : i = j
  · subst h; simp [State.modList]
  · have h' : i.val ≠ j.val := fun e => h (Fin.ext e)
    simp [State.modList, h, Vector.getElem_set, h']

@[simp] theorem State.modList_get_self : (s.modList i f).lists[i] = f s.lists[i] := by simp [State.modList]

theorem State.modList_get_ne (j : SlotId) (h : i ≠ j) : (s.modList i f).lists[j] = s.lists[j] := by
  rw [State.modList_get, if_neg h]

end modList

/-! ## modGroup -/

section modGroup

variable (s : State) (i : GroupId) (f : Group → Group)

@[simp] theorem State.modGroup_pending : (s.modGroup i f).pending = s.pending := rfl
@[simp] theorem State.modGroup_memSize : (s.modGroup i f).memSize = s.memSize := rfl
@[simp] theorem State.modGroup_regionTop : (s.modGroup i f).regionTop = s.regionTop := rfl
@[simp] theorem State.modGroup_startUp : (s.modGroup i f).startUp = s.startUp := rfl
@[simp] theorem State.modGroup_warmPending : (s.modGroup i f).warmPending = s.warmPending := rfl
@[simp] theorem State.modGroup_cfg : (s.modGroup i f).cfg = s.cfg := rfl
@[simp] theorem State.modGroup_mem : (s.modGroup i f).mem = s.mem := rfl
@[simp] theorem State.modGroup_links : (s.modGroup i f).links = s.links := rfl
@[simp] theorem State.modGroup_access : (s.modGroup i f).access = s.access := rfl
@[simp] theorem State.modGroup_port : (s.modGroup i f).port = s.port := rfl
@[simp] theorem State.modGroup_queues : (s.modGroup i f).queues = s.queues := rfl
@[simp] theorem State.modGroup_lists : (s.modGroup i f).lists = s.lists := rfl
@[simp] theorem State.modGroup_staged : (s.modGroup i f).staged = s.staged := rfl
@[simp] theorem State.modGroup_rounds : (s.modGroup i f).rounds = s.rounds := rfl
@[simp] theorem State.modGroup_serving : (s.modGroup i f).serving = s.serving := rfl
@[simp] theorem State.modGroup_time : (s.modGroup i f).time = s.time := rfl
@[simp] theorem State.modGroup_refs : (s.modGroup i f).refs = s.refs := rfl
@[simp] theorem State.modGroup_frame : (s.modGroup i f).frame = s.frame := rfl
@[simp] theorem State.modGroup_latches : (s.modGroup i f).latches = s.latches := rfl
@[simp] theorem State.modGroup_swaps : (s.modGroup i f).swaps = s.swaps := rfl
@[simp] theorem State.modGroup_adm : (s.modGroup i f).adm = s.adm := rfl
@[simp] theorem State.modGroup_onBattery : (s.modGroup i f).onBattery = s.onBattery := rfl
@[simp] theorem State.modGroup_points : (s.modGroup i f).points = s.points := rfl
@[simp] theorem State.modGroup_relays : (s.modGroup i f).relays = s.relays := rfl
@[simp] theorem State.modGroup_log : (s.modGroup i f).log = s.log := rfl
@[simp] theorem State.modGroup_contacts : (s.modGroup i f).contacts = s.contacts := rfl
@[simp] theorem State.modGroup_contactDue : (s.modGroup i f).contactDue = s.contactDue := rfl
@[simp] theorem State.modGroup_channels : (s.modGroup i f).channels = s.channels := rfl
@[simp] theorem State.modGroup_scan : (s.modGroup i f).scan = s.scan := rfl
@[simp] theorem State.modGroup_marks : (s.modGroup i f).marks = s.marks := rfl

/-- What the table reads after the change. -/
theorem State.modGroup_get (j : GroupId) : (s.modGroup i f).groups[j] = if i = j then f s.groups[j] else s.groups[j] := by
  by_cases h : i = j
  · subst h; simp [State.modGroup]
  · have h' : i.val ≠ j.val := fun e => h (Fin.ext e)
    simp [State.modGroup, h, Vector.getElem_set, h']

@[simp] theorem State.modGroup_get_self : (s.modGroup i f).groups[i] = f s.groups[i] := by simp [State.modGroup]

theorem State.modGroup_get_ne (j : GroupId) (h : i ≠ j) : (s.modGroup i f).groups[j] = s.groups[j] := by
  rw [State.modGroup_get, if_neg h]

end modGroup

/-! ## modRef -/

section modRef

variable (s : State) (i : RefId) (f : Reference → Reference)

@[simp] theorem State.modRef_pending : (s.modRef i f).pending = s.pending := rfl
@[simp] theorem State.modRef_memSize : (s.modRef i f).memSize = s.memSize := rfl
@[simp] theorem State.modRef_regionTop : (s.modRef i f).regionTop = s.regionTop := rfl
@[simp] theorem State.modRef_startUp : (s.modRef i f).startUp = s.startUp := rfl
@[simp] theorem State.modRef_warmPending : (s.modRef i f).warmPending = s.warmPending := rfl
@[simp] theorem State.modRef_cfg : (s.modRef i f).cfg = s.cfg := rfl
@[simp] theorem State.modRef_mem : (s.modRef i f).mem = s.mem := rfl
@[simp] theorem State.modRef_links : (s.modRef i f).links = s.links := rfl
@[simp] theorem State.modRef_access : (s.modRef i f).access = s.access := rfl
@[simp] theorem State.modRef_port : (s.modRef i f).port = s.port := rfl
@[simp] theorem State.modRef_queues : (s.modRef i f).queues = s.queues := rfl
@[simp] theorem State.modRef_lists : (s.modRef i f).lists = s.lists := rfl
@[simp] theorem State.modRef_groups : (s.modRef i f).groups = s.groups := rfl
@[simp] theorem State.modRef_staged : (s.modRef i f).staged = s.staged := rfl
@[simp] theorem State.modRef_rounds : (s.modRef i f).rounds = s.rounds := rfl
@[simp] theorem State.modRef_serving : (s.modRef i f).serving = s.serving := rfl
@[simp] theorem State.modRef_time : (s.modRef i f).time = s.time := rfl
@[simp] theorem State.modRef_frame : (s.modRef i f).frame = s.frame := rfl
@[simp] theorem State.modRef_latches : (s.modRef i f).latches = s.latches := rfl
@[simp] theorem State.modRef_swaps : (s.modRef i f).swaps = s.swaps := rfl
@[simp] theorem State.modRef_adm : (s.modRef i f).adm = s.adm := rfl
@[simp] theorem State.modRef_onBattery : (s.modRef i f).onBattery = s.onBattery := rfl
@[simp] theorem State.modRef_points : (s.modRef i f).points = s.points := rfl
@[simp] theorem State.modRef_relays : (s.modRef i f).relays = s.relays := rfl
@[simp] theorem State.modRef_log : (s.modRef i f).log = s.log := rfl
@[simp] theorem State.modRef_contacts : (s.modRef i f).contacts = s.contacts := rfl
@[simp] theorem State.modRef_contactDue : (s.modRef i f).contactDue = s.contactDue := rfl
@[simp] theorem State.modRef_channels : (s.modRef i f).channels = s.channels := rfl
@[simp] theorem State.modRef_scan : (s.modRef i f).scan = s.scan := rfl
@[simp] theorem State.modRef_marks : (s.modRef i f).marks = s.marks := rfl

/-- What the table reads after the change. -/
theorem State.modRef_get (j : RefId) : (s.modRef i f).refs[j] = if i = j then f s.refs[j] else s.refs[j] := by
  by_cases h : i = j
  · subst h; simp [State.modRef]
  · have h' : i.val ≠ j.val := fun e => h (Fin.ext e)
    simp [State.modRef, h, Vector.getElem_set, h']

@[simp] theorem State.modRef_get_self : (s.modRef i f).refs[i] = f s.refs[i] := by simp [State.modRef]

theorem State.modRef_get_ne (j : RefId) (h : i ≠ j) : (s.modRef i f).refs[j] = s.refs[j] := by
  rw [State.modRef_get, if_neg h]

end modRef

/-! ## modLatch -/

section modLatch

variable (s : State) (i : SlotId) (f : Latch → Latch)

@[simp] theorem State.modLatch_pending : (s.modLatch i f).pending = s.pending := rfl
@[simp] theorem State.modLatch_memSize : (s.modLatch i f).memSize = s.memSize := rfl
@[simp] theorem State.modLatch_regionTop : (s.modLatch i f).regionTop = s.regionTop := rfl
@[simp] theorem State.modLatch_startUp : (s.modLatch i f).startUp = s.startUp := rfl
@[simp] theorem State.modLatch_warmPending : (s.modLatch i f).warmPending = s.warmPending := rfl
@[simp] theorem State.modLatch_cfg : (s.modLatch i f).cfg = s.cfg := rfl
@[simp] theorem State.modLatch_mem : (s.modLatch i f).mem = s.mem := rfl
@[simp] theorem State.modLatch_links : (s.modLatch i f).links = s.links := rfl
@[simp] theorem State.modLatch_access : (s.modLatch i f).access = s.access := rfl
@[simp] theorem State.modLatch_port : (s.modLatch i f).port = s.port := rfl
@[simp] theorem State.modLatch_queues : (s.modLatch i f).queues = s.queues := rfl
@[simp] theorem State.modLatch_lists : (s.modLatch i f).lists = s.lists := rfl
@[simp] theorem State.modLatch_groups : (s.modLatch i f).groups = s.groups := rfl
@[simp] theorem State.modLatch_staged : (s.modLatch i f).staged = s.staged := rfl
@[simp] theorem State.modLatch_rounds : (s.modLatch i f).rounds = s.rounds := rfl
@[simp] theorem State.modLatch_serving : (s.modLatch i f).serving = s.serving := rfl
@[simp] theorem State.modLatch_time : (s.modLatch i f).time = s.time := rfl
@[simp] theorem State.modLatch_refs : (s.modLatch i f).refs = s.refs := rfl
@[simp] theorem State.modLatch_frame : (s.modLatch i f).frame = s.frame := rfl
@[simp] theorem State.modLatch_swaps : (s.modLatch i f).swaps = s.swaps := rfl
@[simp] theorem State.modLatch_adm : (s.modLatch i f).adm = s.adm := rfl
@[simp] theorem State.modLatch_onBattery : (s.modLatch i f).onBattery = s.onBattery := rfl
@[simp] theorem State.modLatch_points : (s.modLatch i f).points = s.points := rfl
@[simp] theorem State.modLatch_relays : (s.modLatch i f).relays = s.relays := rfl
@[simp] theorem State.modLatch_log : (s.modLatch i f).log = s.log := rfl
@[simp] theorem State.modLatch_contacts : (s.modLatch i f).contacts = s.contacts := rfl
@[simp] theorem State.modLatch_contactDue : (s.modLatch i f).contactDue = s.contactDue := rfl
@[simp] theorem State.modLatch_channels : (s.modLatch i f).channels = s.channels := rfl
@[simp] theorem State.modLatch_scan : (s.modLatch i f).scan = s.scan := rfl
@[simp] theorem State.modLatch_marks : (s.modLatch i f).marks = s.marks := rfl

/-- What the table reads after the change. -/
theorem State.modLatch_get (j : SlotId) : (s.modLatch i f).latches[j] = if i = j then f s.latches[j] else s.latches[j] := by
  by_cases h : i = j
  · subst h; simp [State.modLatch]
  · have h' : i.val ≠ j.val := fun e => h (Fin.ext e)
    simp [State.modLatch, h, Vector.getElem_set, h']

@[simp] theorem State.modLatch_get_self : (s.modLatch i f).latches[i] = f s.latches[i] := by simp [State.modLatch]

theorem State.modLatch_get_ne (j : SlotId) (h : i ≠ j) : (s.modLatch i f).latches[j] = s.latches[j] := by
  rw [State.modLatch_get, if_neg h]

end modLatch

/-! ## modSwap -/

section modSwap

variable (s : State) (i : SlotId) (f : Swap → Swap)

@[simp] theorem State.modSwap_pending : (s.modSwap i f).pending = s.pending := rfl
@[simp] theorem State.modSwap_memSize : (s.modSwap i f).memSize = s.memSize := rfl
@[simp] theorem State.modSwap_regionTop : (s.modSwap i f).regionTop = s.regionTop := rfl
@[simp] theorem State.modSwap_startUp : (s.modSwap i f).startUp = s.startUp := rfl
@[simp] theorem State.modSwap_warmPending : (s.modSwap i f).warmPending = s.warmPending := rfl
@[simp] theorem State.modSwap_cfg : (s.modSwap i f).cfg = s.cfg := rfl
@[simp] theorem State.modSwap_mem : (s.modSwap i f).mem = s.mem := rfl
@[simp] theorem State.modSwap_links : (s.modSwap i f).links = s.links := rfl
@[simp] theorem State.modSwap_access : (s.modSwap i f).access = s.access := rfl
@[simp] theorem State.modSwap_port : (s.modSwap i f).port = s.port := rfl
@[simp] theorem State.modSwap_queues : (s.modSwap i f).queues = s.queues := rfl
@[simp] theorem State.modSwap_lists : (s.modSwap i f).lists = s.lists := rfl
@[simp] theorem State.modSwap_groups : (s.modSwap i f).groups = s.groups := rfl
@[simp] theorem State.modSwap_staged : (s.modSwap i f).staged = s.staged := rfl
@[simp] theorem State.modSwap_rounds : (s.modSwap i f).rounds = s.rounds := rfl
@[simp] theorem State.modSwap_serving : (s.modSwap i f).serving = s.serving := rfl
@[simp] theorem State.modSwap_time : (s.modSwap i f).time = s.time := rfl
@[simp] theorem State.modSwap_refs : (s.modSwap i f).refs = s.refs := rfl
@[simp] theorem State.modSwap_frame : (s.modSwap i f).frame = s.frame := rfl
@[simp] theorem State.modSwap_latches : (s.modSwap i f).latches = s.latches := rfl
@[simp] theorem State.modSwap_adm : (s.modSwap i f).adm = s.adm := rfl
@[simp] theorem State.modSwap_onBattery : (s.modSwap i f).onBattery = s.onBattery := rfl
@[simp] theorem State.modSwap_points : (s.modSwap i f).points = s.points := rfl
@[simp] theorem State.modSwap_relays : (s.modSwap i f).relays = s.relays := rfl
@[simp] theorem State.modSwap_log : (s.modSwap i f).log = s.log := rfl
@[simp] theorem State.modSwap_contacts : (s.modSwap i f).contacts = s.contacts := rfl
@[simp] theorem State.modSwap_contactDue : (s.modSwap i f).contactDue = s.contactDue := rfl
@[simp] theorem State.modSwap_channels : (s.modSwap i f).channels = s.channels := rfl
@[simp] theorem State.modSwap_scan : (s.modSwap i f).scan = s.scan := rfl
@[simp] theorem State.modSwap_marks : (s.modSwap i f).marks = s.marks := rfl

/-- What the table reads after the change. -/
theorem State.modSwap_get (j : SlotId) : (s.modSwap i f).swaps[j] = if i = j then f s.swaps[j] else s.swaps[j] := by
  by_cases h : i = j
  · subst h; simp [State.modSwap]
  · have h' : i.val ≠ j.val := fun e => h (Fin.ext e)
    simp [State.modSwap, h, Vector.getElem_set, h']

@[simp] theorem State.modSwap_get_self : (s.modSwap i f).swaps[i] = f s.swaps[i] := by simp [State.modSwap]

theorem State.modSwap_get_ne (j : SlotId) (h : i ≠ j) : (s.modSwap i f).swaps[j] = s.swaps[j] := by
  rw [State.modSwap_get, if_neg h]

end modSwap

/-! ## modAdm -/

section modAdm

variable (s : State) (i : SlotId) (f : Admission → Admission)

@[simp] theorem State.modAdm_pending : (s.modAdm i f).pending = s.pending := rfl
@[simp] theorem State.modAdm_memSize : (s.modAdm i f).memSize = s.memSize := rfl
@[simp] theorem State.modAdm_regionTop : (s.modAdm i f).regionTop = s.regionTop := rfl
@[simp] theorem State.modAdm_startUp : (s.modAdm i f).startUp = s.startUp := rfl
@[simp] theorem State.modAdm_warmPending : (s.modAdm i f).warmPending = s.warmPending := rfl
@[simp] theorem State.modAdm_cfg : (s.modAdm i f).cfg = s.cfg := rfl
@[simp] theorem State.modAdm_mem : (s.modAdm i f).mem = s.mem := rfl
@[simp] theorem State.modAdm_links : (s.modAdm i f).links = s.links := rfl
@[simp] theorem State.modAdm_access : (s.modAdm i f).access = s.access := rfl
@[simp] theorem State.modAdm_port : (s.modAdm i f).port = s.port := rfl
@[simp] theorem State.modAdm_queues : (s.modAdm i f).queues = s.queues := rfl
@[simp] theorem State.modAdm_lists : (s.modAdm i f).lists = s.lists := rfl
@[simp] theorem State.modAdm_groups : (s.modAdm i f).groups = s.groups := rfl
@[simp] theorem State.modAdm_staged : (s.modAdm i f).staged = s.staged := rfl
@[simp] theorem State.modAdm_rounds : (s.modAdm i f).rounds = s.rounds := rfl
@[simp] theorem State.modAdm_serving : (s.modAdm i f).serving = s.serving := rfl
@[simp] theorem State.modAdm_time : (s.modAdm i f).time = s.time := rfl
@[simp] theorem State.modAdm_refs : (s.modAdm i f).refs = s.refs := rfl
@[simp] theorem State.modAdm_frame : (s.modAdm i f).frame = s.frame := rfl
@[simp] theorem State.modAdm_latches : (s.modAdm i f).latches = s.latches := rfl
@[simp] theorem State.modAdm_swaps : (s.modAdm i f).swaps = s.swaps := rfl
@[simp] theorem State.modAdm_onBattery : (s.modAdm i f).onBattery = s.onBattery := rfl
@[simp] theorem State.modAdm_points : (s.modAdm i f).points = s.points := rfl
@[simp] theorem State.modAdm_relays : (s.modAdm i f).relays = s.relays := rfl
@[simp] theorem State.modAdm_log : (s.modAdm i f).log = s.log := rfl
@[simp] theorem State.modAdm_contacts : (s.modAdm i f).contacts = s.contacts := rfl
@[simp] theorem State.modAdm_contactDue : (s.modAdm i f).contactDue = s.contactDue := rfl
@[simp] theorem State.modAdm_channels : (s.modAdm i f).channels = s.channels := rfl
@[simp] theorem State.modAdm_scan : (s.modAdm i f).scan = s.scan := rfl
@[simp] theorem State.modAdm_marks : (s.modAdm i f).marks = s.marks := rfl

/-- What the table reads after the change. -/
theorem State.modAdm_get (j : SlotId) : (s.modAdm i f).adm[j] = if i = j then f s.adm[j] else s.adm[j] := by
  by_cases h : i = j
  · subst h; simp [State.modAdm]
  · have h' : i.val ≠ j.val := fun e => h (Fin.ext e)
    simp [State.modAdm, h, Vector.getElem_set, h']

@[simp] theorem State.modAdm_get_self : (s.modAdm i f).adm[i] = f s.adm[i] := by simp [State.modAdm]

theorem State.modAdm_get_ne (j : SlotId) (h : i ≠ j) : (s.modAdm i f).adm[j] = s.adm[j] := by
  rw [State.modAdm_get, if_neg h]

end modAdm

/-! ## modPoint -/

section modPoint

variable (s : State) (i : PointId) (f : Point → Point)

@[simp] theorem State.modPoint_pending : (s.modPoint i f).pending = s.pending := rfl
@[simp] theorem State.modPoint_memSize : (s.modPoint i f).memSize = s.memSize := rfl
@[simp] theorem State.modPoint_regionTop : (s.modPoint i f).regionTop = s.regionTop := rfl
@[simp] theorem State.modPoint_startUp : (s.modPoint i f).startUp = s.startUp := rfl
@[simp] theorem State.modPoint_warmPending : (s.modPoint i f).warmPending = s.warmPending := rfl
@[simp] theorem State.modPoint_cfg : (s.modPoint i f).cfg = s.cfg := rfl
@[simp] theorem State.modPoint_mem : (s.modPoint i f).mem = s.mem := rfl
@[simp] theorem State.modPoint_links : (s.modPoint i f).links = s.links := rfl
@[simp] theorem State.modPoint_access : (s.modPoint i f).access = s.access := rfl
@[simp] theorem State.modPoint_port : (s.modPoint i f).port = s.port := rfl
@[simp] theorem State.modPoint_queues : (s.modPoint i f).queues = s.queues := rfl
@[simp] theorem State.modPoint_lists : (s.modPoint i f).lists = s.lists := rfl
@[simp] theorem State.modPoint_groups : (s.modPoint i f).groups = s.groups := rfl
@[simp] theorem State.modPoint_staged : (s.modPoint i f).staged = s.staged := rfl
@[simp] theorem State.modPoint_rounds : (s.modPoint i f).rounds = s.rounds := rfl
@[simp] theorem State.modPoint_serving : (s.modPoint i f).serving = s.serving := rfl
@[simp] theorem State.modPoint_time : (s.modPoint i f).time = s.time := rfl
@[simp] theorem State.modPoint_refs : (s.modPoint i f).refs = s.refs := rfl
@[simp] theorem State.modPoint_frame : (s.modPoint i f).frame = s.frame := rfl
@[simp] theorem State.modPoint_latches : (s.modPoint i f).latches = s.latches := rfl
@[simp] theorem State.modPoint_swaps : (s.modPoint i f).swaps = s.swaps := rfl
@[simp] theorem State.modPoint_adm : (s.modPoint i f).adm = s.adm := rfl
@[simp] theorem State.modPoint_onBattery : (s.modPoint i f).onBattery = s.onBattery := rfl
@[simp] theorem State.modPoint_relays : (s.modPoint i f).relays = s.relays := rfl
@[simp] theorem State.modPoint_log : (s.modPoint i f).log = s.log := rfl
@[simp] theorem State.modPoint_contacts : (s.modPoint i f).contacts = s.contacts := rfl
@[simp] theorem State.modPoint_contactDue : (s.modPoint i f).contactDue = s.contactDue := rfl
@[simp] theorem State.modPoint_channels : (s.modPoint i f).channels = s.channels := rfl
@[simp] theorem State.modPoint_scan : (s.modPoint i f).scan = s.scan := rfl
@[simp] theorem State.modPoint_marks : (s.modPoint i f).marks = s.marks := rfl

/-- What the table reads after the change. -/
theorem State.modPoint_get (j : PointId) : (s.modPoint i f).points[j] = if i = j then f s.points[j] else s.points[j] := by
  by_cases h : i = j
  · subst h; simp [State.modPoint]
  · have h' : i.val ≠ j.val := fun e => h (Fin.ext e)
    simp [State.modPoint, h, Vector.getElem_set, h']

@[simp] theorem State.modPoint_get_self : (s.modPoint i f).points[i] = f s.points[i] := by simp [State.modPoint]

theorem State.modPoint_get_ne (j : PointId) (h : i ≠ j) : (s.modPoint i f).points[j] = s.points[j] := by
  rw [State.modPoint_get, if_neg h]

end modPoint

/-! ## modRelay -/

section modRelay

variable (s : State) (i : RelayId) (f : Relay → Relay)

@[simp] theorem State.modRelay_pending : (s.modRelay i f).pending = s.pending := rfl
@[simp] theorem State.modRelay_memSize : (s.modRelay i f).memSize = s.memSize := rfl
@[simp] theorem State.modRelay_regionTop : (s.modRelay i f).regionTop = s.regionTop := rfl
@[simp] theorem State.modRelay_startUp : (s.modRelay i f).startUp = s.startUp := rfl
@[simp] theorem State.modRelay_warmPending : (s.modRelay i f).warmPending = s.warmPending := rfl
@[simp] theorem State.modRelay_cfg : (s.modRelay i f).cfg = s.cfg := rfl
@[simp] theorem State.modRelay_mem : (s.modRelay i f).mem = s.mem := rfl
@[simp] theorem State.modRelay_links : (s.modRelay i f).links = s.links := rfl
@[simp] theorem State.modRelay_access : (s.modRelay i f).access = s.access := rfl
@[simp] theorem State.modRelay_port : (s.modRelay i f).port = s.port := rfl
@[simp] theorem State.modRelay_queues : (s.modRelay i f).queues = s.queues := rfl
@[simp] theorem State.modRelay_lists : (s.modRelay i f).lists = s.lists := rfl
@[simp] theorem State.modRelay_groups : (s.modRelay i f).groups = s.groups := rfl
@[simp] theorem State.modRelay_staged : (s.modRelay i f).staged = s.staged := rfl
@[simp] theorem State.modRelay_rounds : (s.modRelay i f).rounds = s.rounds := rfl
@[simp] theorem State.modRelay_serving : (s.modRelay i f).serving = s.serving := rfl
@[simp] theorem State.modRelay_time : (s.modRelay i f).time = s.time := rfl
@[simp] theorem State.modRelay_refs : (s.modRelay i f).refs = s.refs := rfl
@[simp] theorem State.modRelay_frame : (s.modRelay i f).frame = s.frame := rfl
@[simp] theorem State.modRelay_latches : (s.modRelay i f).latches = s.latches := rfl
@[simp] theorem State.modRelay_swaps : (s.modRelay i f).swaps = s.swaps := rfl
@[simp] theorem State.modRelay_adm : (s.modRelay i f).adm = s.adm := rfl
@[simp] theorem State.modRelay_onBattery : (s.modRelay i f).onBattery = s.onBattery := rfl
@[simp] theorem State.modRelay_points : (s.modRelay i f).points = s.points := rfl
@[simp] theorem State.modRelay_log : (s.modRelay i f).log = s.log := rfl
@[simp] theorem State.modRelay_contacts : (s.modRelay i f).contacts = s.contacts := rfl
@[simp] theorem State.modRelay_contactDue : (s.modRelay i f).contactDue = s.contactDue := rfl
@[simp] theorem State.modRelay_channels : (s.modRelay i f).channels = s.channels := rfl
@[simp] theorem State.modRelay_scan : (s.modRelay i f).scan = s.scan := rfl
@[simp] theorem State.modRelay_marks : (s.modRelay i f).marks = s.marks := rfl

/-- What the table reads after the change. -/
theorem State.modRelay_get (j : RelayId) : (s.modRelay i f).relays[j] = if i = j then f s.relays[j] else s.relays[j] := by
  by_cases h : i = j
  · subst h; simp [State.modRelay]
  · have h' : i.val ≠ j.val := fun e => h (Fin.ext e)
    simp [State.modRelay, h, Vector.getElem_set, h']

@[simp] theorem State.modRelay_get_self : (s.modRelay i f).relays[i] = f s.relays[i] := by simp [State.modRelay]

theorem State.modRelay_get_ne (j : RelayId) (h : i ≠ j) : (s.modRelay i f).relays[j] = s.relays[j] := by
  rw [State.modRelay_get, if_neg h]

end modRelay

/-! ## modChannel -/

section modChannel

variable (s : State) (i : ChannelId) (f : Channel → Channel)

@[simp] theorem State.modChannel_pending : (s.modChannel i f).pending = s.pending := rfl
@[simp] theorem State.modChannel_memSize : (s.modChannel i f).memSize = s.memSize := rfl
@[simp] theorem State.modChannel_regionTop : (s.modChannel i f).regionTop = s.regionTop := rfl
@[simp] theorem State.modChannel_startUp : (s.modChannel i f).startUp = s.startUp := rfl
@[simp] theorem State.modChannel_warmPending : (s.modChannel i f).warmPending = s.warmPending := rfl
@[simp] theorem State.modChannel_cfg : (s.modChannel i f).cfg = s.cfg := rfl
@[simp] theorem State.modChannel_mem : (s.modChannel i f).mem = s.mem := rfl
@[simp] theorem State.modChannel_links : (s.modChannel i f).links = s.links := rfl
@[simp] theorem State.modChannel_access : (s.modChannel i f).access = s.access := rfl
@[simp] theorem State.modChannel_port : (s.modChannel i f).port = s.port := rfl
@[simp] theorem State.modChannel_queues : (s.modChannel i f).queues = s.queues := rfl
@[simp] theorem State.modChannel_lists : (s.modChannel i f).lists = s.lists := rfl
@[simp] theorem State.modChannel_groups : (s.modChannel i f).groups = s.groups := rfl
@[simp] theorem State.modChannel_staged : (s.modChannel i f).staged = s.staged := rfl
@[simp] theorem State.modChannel_rounds : (s.modChannel i f).rounds = s.rounds := rfl
@[simp] theorem State.modChannel_serving : (s.modChannel i f).serving = s.serving := rfl
@[simp] theorem State.modChannel_time : (s.modChannel i f).time = s.time := rfl
@[simp] theorem State.modChannel_refs : (s.modChannel i f).refs = s.refs := rfl
@[simp] theorem State.modChannel_frame : (s.modChannel i f).frame = s.frame := rfl
@[simp] theorem State.modChannel_latches : (s.modChannel i f).latches = s.latches := rfl
@[simp] theorem State.modChannel_swaps : (s.modChannel i f).swaps = s.swaps := rfl
@[simp] theorem State.modChannel_adm : (s.modChannel i f).adm = s.adm := rfl
@[simp] theorem State.modChannel_onBattery : (s.modChannel i f).onBattery = s.onBattery := rfl
@[simp] theorem State.modChannel_points : (s.modChannel i f).points = s.points := rfl
@[simp] theorem State.modChannel_relays : (s.modChannel i f).relays = s.relays := rfl
@[simp] theorem State.modChannel_log : (s.modChannel i f).log = s.log := rfl
@[simp] theorem State.modChannel_contacts : (s.modChannel i f).contacts = s.contacts := rfl
@[simp] theorem State.modChannel_contactDue : (s.modChannel i f).contactDue = s.contactDue := rfl
@[simp] theorem State.modChannel_scan : (s.modChannel i f).scan = s.scan := rfl
@[simp] theorem State.modChannel_marks : (s.modChannel i f).marks = s.marks := rfl

/-- What the table reads after the change. -/
theorem State.modChannel_get (j : ChannelId) : (s.modChannel i f).channels[j] = if i = j then f s.channels[j] else s.channels[j] := by
  by_cases h : i = j
  · subst h; simp [State.modChannel]
  · have h' : i.val ≠ j.val := fun e => h (Fin.ext e)
    simp [State.modChannel, h, Vector.getElem_set, h']

@[simp] theorem State.modChannel_get_self : (s.modChannel i f).channels[i] = f s.channels[i] := by simp [State.modChannel]

theorem State.modChannel_get_ne (j : ChannelId) (h : i ≠ j) : (s.modChannel i f).channels[j] = s.channels[j] := by
  rw [State.modChannel_get, if_neg h]

end modChannel

/-! ## modMarks and setWaiting -/

section others

variable (s : State)

@[simp] theorem State.modMarks_pending (f : Marks → Marks) : (s.modMarks f).pending = s.pending := rfl
@[simp] theorem State.modMarks_memSize (f : Marks → Marks) : (s.modMarks f).memSize = s.memSize := rfl
@[simp] theorem State.modMarks_regionTop (f : Marks → Marks) : (s.modMarks f).regionTop = s.regionTop := rfl
@[simp] theorem State.modMarks_startUp (f : Marks → Marks) : (s.modMarks f).startUp = s.startUp := rfl
@[simp] theorem State.modMarks_warmPending (f : Marks → Marks) : (s.modMarks f).warmPending = s.warmPending := rfl
@[simp] theorem State.modMarks_cfg (f : Marks → Marks) : (s.modMarks f).cfg = s.cfg := rfl
@[simp] theorem State.modMarks_mem (f : Marks → Marks) : (s.modMarks f).mem = s.mem := rfl
@[simp] theorem State.modMarks_links (f : Marks → Marks) : (s.modMarks f).links = s.links := rfl
@[simp] theorem State.modMarks_access (f : Marks → Marks) : (s.modMarks f).access = s.access := rfl
@[simp] theorem State.modMarks_port (f : Marks → Marks) : (s.modMarks f).port = s.port := rfl
@[simp] theorem State.modMarks_queues (f : Marks → Marks) : (s.modMarks f).queues = s.queues := rfl
@[simp] theorem State.modMarks_lists (f : Marks → Marks) : (s.modMarks f).lists = s.lists := rfl
@[simp] theorem State.modMarks_groups (f : Marks → Marks) : (s.modMarks f).groups = s.groups := rfl
@[simp] theorem State.modMarks_staged (f : Marks → Marks) : (s.modMarks f).staged = s.staged := rfl
@[simp] theorem State.modMarks_rounds (f : Marks → Marks) : (s.modMarks f).rounds = s.rounds := rfl
@[simp] theorem State.modMarks_serving (f : Marks → Marks) : (s.modMarks f).serving = s.serving := rfl
@[simp] theorem State.modMarks_time (f : Marks → Marks) : (s.modMarks f).time = s.time := rfl
@[simp] theorem State.modMarks_refs (f : Marks → Marks) : (s.modMarks f).refs = s.refs := rfl
@[simp] theorem State.modMarks_frame (f : Marks → Marks) : (s.modMarks f).frame = s.frame := rfl
@[simp] theorem State.modMarks_latches (f : Marks → Marks) : (s.modMarks f).latches = s.latches := rfl
@[simp] theorem State.modMarks_swaps (f : Marks → Marks) : (s.modMarks f).swaps = s.swaps := rfl
@[simp] theorem State.modMarks_adm (f : Marks → Marks) : (s.modMarks f).adm = s.adm := rfl
@[simp] theorem State.modMarks_onBattery (f : Marks → Marks) : (s.modMarks f).onBattery = s.onBattery := rfl
@[simp] theorem State.modMarks_points (f : Marks → Marks) : (s.modMarks f).points = s.points := rfl
@[simp] theorem State.modMarks_relays (f : Marks → Marks) : (s.modMarks f).relays = s.relays := rfl
@[simp] theorem State.modMarks_log (f : Marks → Marks) : (s.modMarks f).log = s.log := rfl
@[simp] theorem State.modMarks_contacts (f : Marks → Marks) : (s.modMarks f).contacts = s.contacts := rfl
@[simp] theorem State.modMarks_contactDue (f : Marks → Marks) : (s.modMarks f).contactDue = s.contactDue := rfl
@[simp] theorem State.modMarks_channels (f : Marks → Marks) : (s.modMarks f).channels = s.channels := rfl
@[simp] theorem State.modMarks_scan (f : Marks → Marks) : (s.modMarks f).scan = s.scan := rfl

@[simp] theorem State.modMarks_get (f : Marks → Marks) (n : SlotId) : (s.modMarks f).marks[n] = f s.marks[n] := by
  simp [State.modMarks]

@[simp] theorem State.setWaiting_pending (n : SlotId) (t : Option SlotTxn) : (s.setWaiting n t).pending = s.pending := rfl
@[simp] theorem State.setWaiting_memSize (n : SlotId) (t : Option SlotTxn) : (s.setWaiting n t).memSize = s.memSize := rfl
@[simp] theorem State.setWaiting_regionTop (n : SlotId) (t : Option SlotTxn) : (s.setWaiting n t).regionTop = s.regionTop := rfl
@[simp] theorem State.setWaiting_startUp (n : SlotId) (t : Option SlotTxn) : (s.setWaiting n t).startUp = s.startUp := rfl
@[simp] theorem State.setWaiting_warmPending (n : SlotId) (t : Option SlotTxn) : (s.setWaiting n t).warmPending = s.warmPending := rfl
@[simp] theorem State.setWaiting_cfg (n : SlotId) (t : Option SlotTxn) : (s.setWaiting n t).cfg = s.cfg := rfl
@[simp] theorem State.setWaiting_mem (n : SlotId) (t : Option SlotTxn) : (s.setWaiting n t).mem = s.mem := rfl
@[simp] theorem State.setWaiting_links (n : SlotId) (t : Option SlotTxn) : (s.setWaiting n t).links = s.links := rfl
@[simp] theorem State.setWaiting_access (n : SlotId) (t : Option SlotTxn) : (s.setWaiting n t).access = s.access := rfl
@[simp] theorem State.setWaiting_queues (n : SlotId) (t : Option SlotTxn) : (s.setWaiting n t).queues = s.queues := rfl
@[simp] theorem State.setWaiting_lists (n : SlotId) (t : Option SlotTxn) : (s.setWaiting n t).lists = s.lists := rfl
@[simp] theorem State.setWaiting_groups (n : SlotId) (t : Option SlotTxn) : (s.setWaiting n t).groups = s.groups := rfl
@[simp] theorem State.setWaiting_staged (n : SlotId) (t : Option SlotTxn) : (s.setWaiting n t).staged = s.staged := rfl
@[simp] theorem State.setWaiting_rounds (n : SlotId) (t : Option SlotTxn) : (s.setWaiting n t).rounds = s.rounds := rfl
@[simp] theorem State.setWaiting_serving (n : SlotId) (t : Option SlotTxn) : (s.setWaiting n t).serving = s.serving := rfl
@[simp] theorem State.setWaiting_time (n : SlotId) (t : Option SlotTxn) : (s.setWaiting n t).time = s.time := rfl
@[simp] theorem State.setWaiting_refs (n : SlotId) (t : Option SlotTxn) : (s.setWaiting n t).refs = s.refs := rfl
@[simp] theorem State.setWaiting_frame (n : SlotId) (t : Option SlotTxn) : (s.setWaiting n t).frame = s.frame := rfl
@[simp] theorem State.setWaiting_latches (n : SlotId) (t : Option SlotTxn) : (s.setWaiting n t).latches = s.latches := rfl
@[simp] theorem State.setWaiting_swaps (n : SlotId) (t : Option SlotTxn) : (s.setWaiting n t).swaps = s.swaps := rfl
@[simp] theorem State.setWaiting_adm (n : SlotId) (t : Option SlotTxn) : (s.setWaiting n t).adm = s.adm := rfl
@[simp] theorem State.setWaiting_onBattery (n : SlotId) (t : Option SlotTxn) : (s.setWaiting n t).onBattery = s.onBattery := rfl
@[simp] theorem State.setWaiting_points (n : SlotId) (t : Option SlotTxn) : (s.setWaiting n t).points = s.points := rfl
@[simp] theorem State.setWaiting_relays (n : SlotId) (t : Option SlotTxn) : (s.setWaiting n t).relays = s.relays := rfl
@[simp] theorem State.setWaiting_log (n : SlotId) (t : Option SlotTxn) : (s.setWaiting n t).log = s.log := rfl
@[simp] theorem State.setWaiting_contacts (n : SlotId) (t : Option SlotTxn) : (s.setWaiting n t).contacts = s.contacts := rfl
@[simp] theorem State.setWaiting_contactDue (n : SlotId) (t : Option SlotTxn) : (s.setWaiting n t).contactDue = s.contactDue := rfl
@[simp] theorem State.setWaiting_channels (n : SlotId) (t : Option SlotTxn) : (s.setWaiting n t).channels = s.channels := rfl
@[simp] theorem State.setWaiting_scan (n : SlotId) (t : Option SlotTxn) : (s.setWaiting n t).scan = s.scan := rfl
@[simp] theorem State.setWaiting_marks (n : SlotId) (t : Option SlotTxn) : (s.setWaiting n t).marks = s.marks := rfl
@[simp] theorem State.setWaiting_port_flight (n : SlotId) (t : Option SlotTxn) : (s.setWaiting n t).port.flight = s.port.flight := rfl
@[simp] theorem State.setWaiting_port_commit (n : SlotId) (t : Option SlotTxn) : (s.setWaiting n t).port.commit = s.port.commit := rfl
@[simp] theorem State.setWaiting_port_zeroing (n : SlotId) (t : Option SlotTxn) : (s.setWaiting n t).port.zeroing = s.port.zeroing := rfl
@[simp] theorem State.setWaiting_port_last (n : SlotId) (t : Option SlotTxn) : (s.setWaiting n t).port.last = s.port.last := rfl

theorem State.setWaiting_get (n m : SlotId) (t : Option SlotTxn) :
    (s.setWaiting n t).port.waiting[m] = if n = m then t else s.port.waiting[m] := by
  by_cases h : n = m
  · subst h; simp [State.setWaiting]
  · have h' : n.val ≠ m.val := fun e => h (Fin.ext e)
    simp [State.setWaiting, h, Vector.getElem_set, h']

end others

end Sys2Proof.Machine
end

