-- ==== Sys2Proof/Laws/Settle.lean ====
section
/-! SUPPORT. What an event can change after its own act. Two parts of the state stand still while inputs are taken and slots
admitted: `lightPart` always, `reportPart` where no point carries a shed-trigger mark and no slot is to be admitted. A third,
`anyPart`, stands still under the words of a WRITE and a warm reset too. -/

namespace Sys2Proof.Machine

open Sys2Proof

/-! ## Acts one after the other -/

@[simp] theorem Eff.andThen_fst (e : Eff) (f : State → Eff) : (e.andThen f).1 = (f e.1).1 := rfl
@[simp] theorem Eff.andThen_snd (e : Eff) (f : State → Eff) : (e.andThen f).2 = e.2 ++ (f e.1).2 := rfl
@[simp] theorem foldEff_nil {α : Type} (f : α → State → Eff) (s : State) : foldEff f [] s = (s, []) := rfl
@[simp] theorem foldEff_cons {α : Type} (f : α → State → Eff) (a : α) (l : List α) (s : State) :
    foldEff f (a :: l) s = (f a s).andThen (foldEff f l) := rfl

/-- What two acts keep, they keep one after the other. -/
theorem Eff.andThen_keeps {β : Type} (π : State → β) {e : Eff} {f : State → Eff} {s : State} (he : π e.1 = π s)
    (hf : ∀ t, π (f t).1 = π t) : π (e.andThen f).1 = π s := (hf e.1).trans he

/-- What an act keeps for each member, it keeps for all. -/
theorem foldEff_keeps {α β : Type} (π : State → β) {f : α → State → Eff} (h : ∀ a t, π (f a t).1 = π t) :
    ∀ (l : List α) (s : State), π (foldEff f l s).1 = π s
  | [], _ => rfl
  | a :: l, s => (foldEff_keeps π h l (f a s).1).trans (h a s)

/-! ## Inputs taken one by one -/

/-- The input taken next and the others are the ones that waited. -/
theorem nextInput_perm (i : Input) : ∀ l : List Input, ((nextInput i l).1 :: (nextInput i l).2).Perm (i :: l)
  | [] => List.Perm.refl _
  | j :: rest => by
    unfold nextInput
    simp only
    split
    · exact (List.Perm.swap _ _ _).trans ((nextInput_perm j rest).cons i)
    · exact List.Perm.refl _

/-- No input that waits is for a lower point than the one taken next (R166). -/
theorem nextInput_le (i : Input) : ∀ (l : List Input), ∀ j ∈ i :: l, (nextInput i l).1.point ≤ j.point
  | [], j, hj => by simp only [List.mem_singleton] at hj; subst hj; exact le_refl _
  | k :: rest, j, hj => by
    have ih := nextInput_le k rest
    have hk := ih k (by simp)
    unfold nextInput
    simp only
    split
    · rename_i h
      rcases List.mem_cons.1 hj with rfl | hj
      · exact le_of_lt h
      · exact ih j hj
    · rename_i h
      rcases List.mem_cons.1 hj with rfl | hj
      · exact le_refl _
      · exact (not_lt.1 h).trans (ih j hj)

theorem settle_cons (k : Nat) (i : Input) (rest : List Input) (s : State) :
    settle (k + 1) (i :: rest) s =
      settle k ((nextInput i rest).2 ++ (takeInput (nextInput i rest).1 s).2) (takeInput (nextInput i rest).1 s).1 := rfl

theorem settle_admit (k : Nat) (n : SlotId) (s : State) (h : admissible s = some n) :
    settle (k + 1) [] s = settle k (admitSlot n s).2 (admitSlot n s).1 := by
  conv_lhs => unfold settle
  rw [h]

theorem settle_done (k : Nat) (s : State) (h : admissible s = none) : settle k [] s = s := by
  cases k with
  | zero => rfl
  | succ k => unfold settle; rw [h]

/-- What the taking of each input and each admission keep holds at the end. -/
theorem settle_keeps (P : State → Prop) (h : ∀ i s, P s → P (takeInput i s).1)
    (ha : ∀ n s, admissible s = some n → P s → P (admitSlot n s).1) :
    ∀ (k : Nat) (is : List Input) (s : State), P s → P (settle k is s)
  | 0, is, s, hs => by cases is <;> exact hs
  | k + 1, [], s, hs => by
    cases hadm : admissible s with
    | none => rw [settle_done _ _ hadm]; exact hs
    | some n => rw [settle_admit _ _ _ hadm]; exact settle_keeps P h ha k _ _ (ha n s hadm hs)
  | k + 1, i :: rest, s, hs => by rw [settle_cons]; exact settle_keeps P h ha k _ _ (h _ _ hs)

/-- What its own act gives, and what inputs, admissions and the stamping of records keep, an event gives. -/
theorem event_keeps (P : State → Prop) (h : ∀ i s, P s → P (takeInput i s).1)
    (ha : ∀ n s, admissible s = some n → P s → P (admitSlot n s).1) (hst : ∀ k s, P s → P (stampRecords k s))
    (act : State → Eff) (s : State) (hs : P (act s).1) : P (event act s) :=
  hst _ _ (settle_keeps P h ha _ _ _ hs)

/-! ## The parts -/

/-- The fields that the words of a WRITE and a warm reset leave alone: memory and its port's transaction in flight, the
waiting commands, straps and cold start-up, the rounds, the frame number, the contacts. -/
def State.anyPart (s : State) : List Instr × MemSize × Bool × Option Nat × Memory × (Option Flight ×
    Option (List WriteWord) × SlotId) × List GroupId × Bool × Nat × Vector Bool 8 × Vector Bool 8 :=
  (s.pending, s.memSize, s.regionTop, s.startUp, s.mem, (s.port.flight, s.port.commit, s.port.last), s.rounds, s.serving,
    s.frame, s.contacts, s.contactDue)

/-- The fields that no input and no admission changes, the others blanked. -/
def State.lightPart (s : State) : State :=
  { s with links := Vector.replicate 12 LinkPort.cold, access := Vector.replicate 12 { count := 0, last := none },
           port := { s.port with waiting := Vector.replicate 12 none, zeroing := none },
           queues := Vector.replicate 64 Queue.cold, lists := Vector.replicate 12 NoticeList.blank,
           groups := Vector.replicate 16 Group.cold, staged := [], swaps := Vector.replicate 12 Swap.cold,
           adm := Vector.replicate 12 Admission.cold, onBattery := false, points := Vector.replicate 58 Point.cold,
           relays := Vector.replicate 4 Relay.cold, log := LogWriter.cold,
           marks := Vector.replicate 12 { swap := 0#12, points := 0#58 } }

/-- The fields that no report changes where no point carries a shed-trigger mark, the others blanked. -/
def State.reportPart (s : State) : State :=
  { s with lists := Vector.replicate 12 NoticeList.blank, points := Vector.replicate 58 Point.cold,
           relays := Vector.replicate 4 Relay.cold, log := LogWriter.cold,
           marks := Vector.replicate 12 { swap := 0#12, points := 0#58 } }

/-- No point carries a shed-trigger mark (R149). -/
def State.noTrigger (s : State) : Prop := ∀ p : PointId, s.cfg.points[p].shedTrigger = false

theorem shedTriggered_of_noTrigger {s : State} (h : s.noTrigger) : shedTriggered s = false := by
  simp only [shedTriggered, List.any_eq_false]
  intro p _
  have := h p
  simp_all

theorem anyPart_of_lightPart {s t : State} (h : t.lightPart = s.lightPart) : t.anyPart = s.anyPart := by
  have : t.lightPart.anyPart = s.lightPart.anyPart := by rw [h]
  exact this

theorem lightPart_of_reportPart {s t : State} (h : t.reportPart = s.reportPart) : t.lightPart = s.lightPart := by
  have : t.reportPart.lightPart = s.reportPart.lightPart := by rw [h]
  exact this

/-! ## Updates that a part does not see -/

section Updates

variable (s : State)

@[simp] theorem lightPart_links (x : Vector LinkPort 12) : State.lightPart { s with links := x } = s.lightPart := rfl
@[simp] theorem lightPart_access (x : Vector AccessRecord 12) : State.lightPart { s with access := x } = s.lightPart := rfl
@[simp] theorem lightPart_queues (x : Vector Queue 64) : State.lightPart { s with queues := x } = s.lightPart := rfl
@[simp] theorem lightPart_lists (x : Vector NoticeList 12) : State.lightPart { s with lists := x } = s.lightPart := rfl
@[simp] theorem lightPart_groups (x : Vector Group 16) : State.lightPart { s with groups := x } = s.lightPart := rfl
@[simp] theorem lightPart_staged (x : List Staged) : State.lightPart { s with staged := x } = s.lightPart := rfl
@[simp] theorem lightPart_swaps (x : Vector Swap 12) : State.lightPart { s with swaps := x } = s.lightPart := rfl
@[simp] theorem lightPart_adm (x : Vector Admission 12) : State.lightPart { s with adm := x } = s.lightPart := rfl
@[simp] theorem lightPart_onBattery (x : Bool) : State.lightPart { s with onBattery := x } = s.lightPart := rfl
@[simp] theorem lightPart_points (x : Vector Point 58) : State.lightPart { s with points := x } = s.lightPart := rfl
@[simp] theorem lightPart_relays (x : Vector Relay 4) : State.lightPart { s with relays := x } = s.lightPart := rfl
@[simp] theorem lightPart_log (x : LogWriter) : State.lightPart { s with log := x } = s.lightPart := rfl
@[simp] theorem lightPart_marks (x : Vector Marks 12) : State.lightPart { s with marks := x } = s.lightPart := rfl
@[simp] theorem lightPart_waiting (x : Vector (Option SlotTxn) 12) :
    State.lightPart { s with port := { s.port with waiting := x } } = s.lightPart := rfl
@[simp] theorem lightPart_zeroing (x : Option QueueId) :
    State.lightPart { s with port := { s.port with zeroing := x } } = s.lightPart := rfl
@[simp] theorem modLink_lightPart (i : SlotId) (f : LinkPort → LinkPort) : (s.modLink i f).lightPart = s.lightPart := rfl
@[simp] theorem modAccess_lightPart (i : SlotId) (f : AccessRecord → AccessRecord) :
    (s.modAccess i f).lightPart = s.lightPart := rfl
@[simp] theorem modQueue_lightPart (i : QueueId) (f : Queue → Queue) : (s.modQueue i f).lightPart = s.lightPart := rfl
@[simp] theorem modList_lightPart (i : SlotId) (f : NoticeList → NoticeList) :
    (s.modList i f).lightPart = s.lightPart := rfl
@[simp] theorem modGroup_lightPart (i : GroupId) (f : Group → Group) : (s.modGroup i f).lightPart = s.lightPart := rfl
@[simp] theorem modSwap_lightPart (i : SlotId) (f : Swap → Swap) : (s.modSwap i f).lightPart = s.lightPart := rfl
@[simp] theorem modAdm_lightPart (i : SlotId) (f : Admission → Admission) : (s.modAdm i f).lightPart = s.lightPart := rfl
@[simp] theorem modMarks_lightPart (f : Marks → Marks) : (s.modMarks f).lightPart = s.lightPart := rfl

end Updates

/-! ## Points and relays -/

@[simp] theorem judgeRelays_lightPart (s : State) : (judgeRelays s).lightPart = s.lightPart := rfl
@[simp] theorem judgeRelays_reportPart (s : State) : (judgeRelays s).reportPart = s.reportPart := rfl
@[simp] theorem modPoint_lightPart (s : State) (p : PointId) (f : Point → Point) :
    (s.modPoint p f).lightPart = s.lightPart := rfl
@[simp] theorem modPoint_reportPart (s : State) (p : PointId) (f : Point → Point) :
    (s.modPoint p f).reportPart = s.reportPart := rfl

@[simp] theorem setPoint_lightPart (p : PointId) (f : Point → Point) (s : State) :
    (setPoint p f s).lightPart = s.lightPart := by unfold setPoint; split <;> rfl
@[simp] theorem setPoint_reportPart (p : PointId) (f : Point → Point) (s : State) :
    (setPoint p f s).reportPart = s.reportPart := by unfold setPoint; split <;> rfl

theorem noTrigger_of_reportPart {s t : State} (h : t.reportPart = s.reportPart) (hs : s.noTrigger) : t.noTrigger := by
  have hc : t.reportPart.cfg = s.reportPart.cfg := congrArg State.cfg h
  change t.cfg = s.cfg at hc
  intro p; rw [hc]; exact hs p

/-! ## Notices and records -/

theorem handNotice_reportPart (n : SlotId) (id : NoticeId) (d : Details) (s : State) :
    (handNotice n id d s).1.reportPart = s.reportPart := by
  unfold handNotice; simp only; split_ifs <;> rfl

theorem handAll_reportPart (ns : List SlotId) (id : NoticeId) (d : SlotId → Details) (s : State) :
    (handAll ns id d s).1.reportPart = s.reportPart :=
  foldEff_keeps State.reportPart (fun n t => handNotice_reportPart n id (d n) t) ns s

theorem handCommitDone_reportPart (g : GroupId) (r : CommitResult) (k : Nat) (s : State) :
    (handCommitDone g r k s).1.reportPart = s.reportPart := handAll_reportPart _ _ _ _

theorem handSwapNotice_reportPart (n : SlotId) (st : SwapState) (c : Reason) (s : State) :
    (handSwapNotice n st c s).1.reportPart = s.reportPart := handAll_reportPart _ _ _ _

theorem takeRecord_reportPart (d : LogDraft) (s : State) : (takeRecord d s).1.reportPart = s.reportPart := by
  unfold takeRecord; simp only; split_ifs <;> rfl

/-! ## The alarm unit's acts -/

theorem reportChange_reportPart (p : PointId) (ch : Change) (s : State) :
    (reportChange p ch s).1.reportPart = s.reportPart :=
  Eff.andThen_keeps State.reportPart (handAll_reportPart _ _ _ _) fun t => takeRecord_reportPart _ t

theorem changePoint_reportPart (p : PointId) (f : Point → Point) (ch : Option Change) (s : State) :
    (changePoint p f ch s).1.reportPart = s.reportPart := by
  unfold changePoint; split
  · exact (reportChange_reportPart _ _ _).trans (setPoint_reportPart p f s)
  · exact setPoint_reportPart p f s

theorem raisePoint_reportPart (p : PointId) (ch : Change) (s : State) :
    (raisePoint p ch s).1.reportPart = s.reportPart := changePoint_reportPart _ _ _ _
theorem clearPoint_reportPart (p : PointId) (s : State) : (clearPoint p s).1.reportPart = s.reportPart :=
  changePoint_reportPart _ _ _ _
theorem fallPoint_reportPart (p : PointId) (s : State) : (fallPoint p s).1.reportPart = s.reportPart := by
  unfold fallPoint; split
  · exact clearPoint_reportPart _ _
  · exact changePoint_reportPart _ _ _ _
theorem judgePresent_reportPart (p : PointId) (s : State) : (judgePresent p s).1.reportPart = s.reportPart := by
  unfold judgePresent; split
  · split
    · exact raisePoint_reportPart _ _ _
    · exact changePoint_reportPart _ _ _ _
  · rfl
  · rfl
  · exact changePoint_reportPart _ _ _ _
theorem judgeAbsent_reportPart (p : PointId) (s : State) : (judgeAbsent p s).1.reportPart = s.reportPart := by
  unfold judgeAbsent; split
  · rfl
  · exact changePoint_reportPart _ _ _ _
  · split
    · exact fallPoint_reportPart _ _
    · rfl
  · rfl
theorem setCond_reportPart (p : PointId) (b : Bool) (s : State) : (setCond p b s).1.reportPart = s.reportPart := by
  unfold setCond; simp only; split
  · split
    · exact judgePresent_reportPart _ _
    · exact judgeAbsent_reportPart _ _
  · rfl
theorem takeCond_reportPart (p : PointId) (b : Bool) (s : State) : (takeCond p b s).1.reportPart = s.reportPart := by
  unfold takeCond; split
  · rfl
  · exact setCond_reportPart _ _ _
theorem takeEvent_reportPart (p : PointId) (s : State) : (takeEvent p s).1.reportPart = s.reportPart := by
  unfold takeEvent; split
  · split <;> exact raisePoint_reportPart _ _ _
  · rfl
theorem takeLogLoss_reportPart (s : State) : (takeLogLoss s).1.reportPart = s.reportPart := by
  unfold takeLogLoss; split
  · rfl
  · exact takeEvent_reportPart _ _
theorem releasePoint_reportPart (p : PointId) (s : State) : (releasePoint p s).1.reportPart = s.reportPart := by
  unfold releasePoint; split
  · exact fallPoint_reportPart _ _
  · rfl
theorem ackPoint_reportPart (p : PointId) (s : State) : (ackPoint p s).1.reportPart = s.reportPart := by
  unfold ackPoint; split
  · exact Eff.andThen_keeps State.reportPart (changePoint_reportPart _ _ _ _) fun t => releasePoint_reportPart p t
  · rfl
theorem disablePoint_reportPart (p : PointId) (s : State) : (disablePoint p s).1.reportPart = s.reportPart := by
  unfold disablePoint; split_ifs
  · exact clearPoint_reportPart _ _
  · exact changePoint_reportPart _ _ _ _
  · rfl
theorem pointActs_reportPart (p : PointId) (a b : PointCfg) (s : State) :
    (pointActs p a b s).1.reportPart = s.reportPart := by
  unfold pointActs; split_ifs
  · exact disablePoint_reportPart _ _
  · exact judgePresent_reportPart _ _
  · rfl
  · rfl
  · exact judgeAbsent_reportPart _ _
  · rfl

/-- The alarm unit's own part of an input, before the admission unit is told. -/
def inputAct (i : Input) (s : State) : Eff :=
  match i with
  | .event p => takeEvent p s
  | .cond p b => takeCond p b s
  | .recond p b => setCond p b s
  | .logLoss => takeLogLoss s

theorem takeInput_eq (i : Input) : takeInput i = tellShed (inputAct i) := rfl

theorem inputAct_reportPart (i : Input) (s : State) : (inputAct i s).1.reportPart = s.reportPart := by
  cases i with
  | event p => exact takeEvent_reportPart _ _
  | cond p b => exact takeCond_reportPart _ _ _
  | recond p b => exact setCond_reportPart _ _ _
  | logLoss => exact takeLogLoss_reportPart _

/-- Where the set of active shed-trigger points stays empty or not empty, the admission unit is not told (R149). -/
theorem tellShed_same {act : State → Eff} {s : State} (h : shedTriggered (act s).1 = shedTriggered s) :
    tellShed act s = act s := if_pos h

/-- Where it changes, the budget it selects is formed (R149). -/
theorem tellShed_told {act : State → Eff} {s : State} (h : shedTriggered (act s).1 ≠ shedTriggered s) :
    tellShed act s = (act s).andThen fun t => formBudget { t with onBattery := shedTriggered t } := if_neg h

/-- An input taken where no point carries a shed-trigger mark is the alarm unit's own part of it. -/
theorem takeInput_quiet (i : Input) {s : State} (h : s.noTrigger) : takeInput i s = inputAct i s := by
  rw [takeInput_eq]
  refine tellShed_same ?_
  rw [shedTriggered_of_noTrigger h,
    shedTriggered_of_noTrigger (noTrigger_of_reportPart (inputAct_reportPart i s) h)]

/-! ## Links, the queue tracker, admission and the swap sequencer -/

@[simp] theorem setWaiting_lightPart (s : State) (n : SlotId) (t : Option SlotTxn) :
    (s.setWaiting n t).lightPart = s.lightPart := rfl

@[simp] theorem withdrawRead_lightPart (n : SlotId) (s : State) : (withdrawRead n s).lightPart = s.lightPart := by
  unfold withdrawRead; split <;> rfl

@[simp] theorem fenceLink_lightPart (n : SlotId) (s : State) : (fenceLink n s).lightPart = s.lightPart := by
  unfold fenceLink; rw [modLink_lightPart, withdrawRead_lightPart]

@[simp] theorem withdrawStale_lightPart (s : State) : (withdrawStale s).lightPart = s.lightPart := by
  unfold withdrawStale; split
  · split <;> rfl
  · rfl

@[simp] theorem judgeHolds_lightPart (s : State) : (judgeHolds s).lightPart = s.lightPart := rfl

theorem handNotice_lightPart (n : SlotId) (id : NoticeId) (d : Details) (s : State) :
    (handNotice n id d s).1.lightPart = s.lightPart := lightPart_of_reportPart (handNotice_reportPart _ _ _ _)

theorem queueNotice_lightPart (k : QueueNotice) (q : QueueId) (m : Nat) (s : State) :
    (queueNotice k q m s).1.lightPart = s.lightPart := by
  unfold queueNotice; split
  · exact handNotice_lightPart _ _ _ _
  · rfl

theorem detachSlot_lightPart (n : SlotId) (s : State) : (detachSlot n s).1.lightPart = s.lightPart := by
  unfold detachSlot
  refine (foldEff_keeps State.lightPart (fun q t => ?_) _ _).trans ?_
  · unfold detachNotice; split
    · rfl
    · exact queueNotice_lightPart _ _ _ _
  · rw [withdrawStale_lightPart, lightPart_queues]

@[simp] theorem enterSwap_lightPart (n : SlotId) (st : SwapState) (r : Reason) (s : State) :
    (enterSwap n st r s).lightPart = s.lightPart := by unfold enterSwap; rw [modMarks_lightPart, modSwap_lightPart]

@[simp] theorem startTimer_lightPart (n : SlotId) (k : Nat) (s : State) : (startTimer n k s).lightPart = s.lightPart := rfl
@[simp] theorem clearDraw_lightPart (n : SlotId) (s : State) : (clearDraw n s).lightPart = s.lightPart := rfl
@[simp] theorem purgeSlot_lightPart (n : SlotId) (s : State) : (purgeSlot n s).lightPart = s.lightPart := by
  unfold purgeSlot; rfl

theorem switchLink_lightPart (n : SlotId) (a b : SwapState) (s : State) :
    (switchLink n a b s).1.lightPart = s.lightPart := by
  unfold switchLink; split_ifs
  · rfl
  · simp [takeLinkOn]
  · simp [takeLinkOff]

theorem teardown_lightPart (n : SlotId) (s : State) : (teardown n s).1.lightPart = s.lightPart := by
  unfold teardown
  simp only [detachSlot_lightPart, clearDraw_lightPart, purgeSlot_lightPart, modList_lightPart]

theorem moveSlot_lightPart (n : SlotId) (st : SwapState) (r : Reason) (s : State) :
    (moveSlot n st r s).1.lightPart = s.lightPart := by
  unfold moveSlot; simp only
  split
  · exact (teardown_lightPart _ _).trans ((switchLink_lightPart _ _ _ _).trans (enterSwap_lightPart _ _ _ _))
  · exact (switchLink_lightPart _ _ _ _).trans (enterSwap_lightPart _ _ _ _)

theorem reportSwap_lightPart (n : SlotId) (st : SwapState) (c : Reason) (s : State) :
    (reportSwap n st c s).1.lightPart = s.lightPart := lightPart_of_reportPart (handSwapNotice_reportPart _ _ _ _)

theorem changeSwap_lightPart (n : SlotId) (st : SwapState) (r c : Reason) {own : State → State}
    (ho : ∀ t, (own t).lightPart = t.lightPart) (s : State) :
    (changeSwap n st r c own s).1.lightPart = s.lightPart :=
  (reportSwap_lightPart _ _ _ _).trans ((ho _).trans (moveSlot_lightPart _ _ _ _))

@[simp] theorem attachSlot_lightPart (n : SlotId) (s : State) : (attachSlot n s).lightPart = s.lightPart := by
  unfold attachSlot; rw [lightPart_queues]

theorem enterOff_lightPart (n : SlotId) (c : Reason) (s : State) : (enterOff n c s).1.lightPart = s.lightPart := by
  unfold enterOff; exact changeSwap_lightPart _ _ _ _ (by intro t; rfl) s
theorem enterSeated_lightPart (n : SlotId) (s : State) : (enterSeated n s).1.lightPart = s.lightPart := by
  unfold enterSeated; exact changeSwap_lightPart _ _ _ _ (by intro t; rfl) s
theorem takeSeat_lightPart (n : SlotId) (s : State) : (takeSeat n s).1.lightPart = s.lightPart := by
  unfold takeSeat
  refine Eff.andThen_keeps State.lightPart (enterSeated_lightPart n s) ?_
  intro t; split
  · exact enterOff_lightPart _ _ _
  · rfl
theorem enterPowering_lightPart (n : SlotId) (s : State) : (enterPowering n s).1.lightPart = s.lightPart := by
  unfold enterPowering; exact changeSwap_lightPart _ _ _ _ (by intro t; rfl) s
theorem admitSlot_lightPart (n : SlotId) (s : State) : (admitSlot n s).1.lightPart = s.lightPart := by
  unfold admitSlot; split
  · exact Eff.andThen_keeps State.lightPart (enterSeated_lightPart n s) fun t => enterPowering_lightPart n t
  · exact enterPowering_lightPart n s
theorem takeRampEnd_lightPart (n : SlotId) (s : State) : (takeRampEnd n s).1.lightPart = s.lightPart := by
  unfold takeRampEnd; exact changeSwap_lightPart _ _ _ _ (by intro t; rfl) s
theorem takeActivate_lightPart (n : SlotId) (s : State) : (takeActivate n s).1.lightPart = s.lightPart := by
  unfold takeActivate
  refine changeSwap_lightPart _ _ _ _ ?_ s
  intro t; simp only; split
  · rfl
  · rw [attachSlot_lightPart]; rfl
theorem takeTurnOff_lightPart (n : SlotId) (c : Reason) (s : State) : (takeTurnOff n c s).1.lightPart = s.lightPart := by
  unfold takeTurnOff
  refine Eff.andThen_keeps State.lightPart (enterOff_lightPart n c s) ?_
  intro t; split
  · exact takeSeat_lightPart _ _
  · rfl
theorem takePowerDown_lightPart (n : SlotId) (s : State) : (takePowerDown n s).1.lightPart = s.lightPart := by
  unfold takePowerDown; exact takeTurnOff_lightPart _ _ _
theorem takeFence_lightPart (n : SlotId) (s : State) : (takeFence n s).1.lightPart = s.lightPart := by
  unfold takeFence; simp only
  refine Eff.andThen_keeps State.lightPart
    ((changeSwap_lightPart _ _ _ _ (by intro t; rfl) _).trans (fenceLink_lightPart n s)) ?_
  intro t; split
  · exact takePowerDown_lightPart _ _
  · rfl
theorem takeQuiesce_lightPart (n : SlotId) (c : Reason) (s : State) : (takeQuiesce n c s).1.lightPart = s.lightPart := by
  unfold takeQuiesce
  refine Eff.andThen_keeps State.lightPart (changeSwap_lightPart _ _ _ _ (by intro t; rfl) s) ?_
  intro t; split
  · exact takeFence_lightPart _ _
  · rfl
theorem takeFaulted_lightPart (n : SlotId) (c : Reason) (s : State) : (takeFaulted n c s).1.lightPart = s.lightPart := by
  unfold takeFaulted; exact changeSwap_lightPart _ _ _ _ (by intro t; rfl) s
theorem takeLockOut_lightPart (n : SlotId) (s : State) : (takeLockOut n s).1.lightPart = s.lightPart := by
  unfold takeLockOut; exact changeSwap_lightPart _ _ _ _ (by intro t; rfl) s
theorem takeUnseat_lightPart (n : SlotId) (s : State) : (takeUnseat n s).1.lightPart = s.lightPart := by
  unfold takeUnseat; exact changeSwap_lightPart _ _ _ _ (by intro t; rfl) s
theorem takeLinkOpen_lightPart (n : SlotId) (s : State) : (takeLinkOpen n s).1.lightPart = s.lightPart := by
  unfold takeLinkOpen; split
  · exact takeActivate_lightPart _ _
  · rfl
  · rfl
  · rfl

theorem presentActs_lightPart (n : SlotId) (b : Bool) (s : State) : (presentActs n b s).1.lightPart = s.lightPart := by
  unfold presentActs; split_ifs
  · exact takeSeat_lightPart _ _
  · rfl
  · rfl
  · exact takeUnseat_lightPart _ _
theorem judgePresentLine_lightPart (n : SlotId) (b : Bool) (s : State) :
    (judgePresentLine n b s).1.lightPart = s.lightPart := by
  unfold judgePresentLine; simp only; split
  · rw [presentActs_lightPart]; rfl
  · rfl
theorem judgeFaultLine_lightPart (n : SlotId) (b : Bool) (s : State) :
    (judgeFaultLine n b s).1.lightPart = s.lightPart := by
  unfold judgeFaultLine; split
  · exact takeFaulted_lightPart _ _ _
  · rfl
theorem judgePgoodLine_lightPart (n : SlotId) (b : Bool) (s : State) :
    (judgePgoodLine n b s).1.lightPart = s.lightPart := by
  unfold judgePgoodLine pgoodActs; split_ifs
  · rw [takeRampEnd_lightPart]; rfl
  · rw [takeFaulted_lightPart]; rfl
  · rfl
theorem latchOpens_lightPart (n : SlotId) (s : State) : (latchOpens n s).1.lightPart = s.lightPart := by
  unfold latchOpens; split
  · exact takeTurnOff_lightPart _ _ _
  · exact takeTurnOff_lightPart _ _ _
  · exact takeQuiesce_lightPart _ _ _
  · rfl
  · rfl
theorem latchCloses_lightPart (n : SlotId) (s : State) : (latchCloses n s).1.lightPart = s.lightPart := by
  unfold latchCloses; split
  · split
    · exact takeActivate_lightPart _ _
    · rfl
  · split
    · exact takeSeat_lightPart _ _
    · rfl
  · rfl
theorem judgeLatchLine_lightPart (n : SlotId) (b : Bool) (s : State) :
    (judgeLatchLine n b s).1.lightPart = s.lightPart := by
  unfold judgeLatchLine; simp only; split_ifs
  · rw [latchCloses_lightPart]; rfl
  · rw [latchOpens_lightPart]; rfl
  · rfl
theorem sampleSlot_lightPart (n : SlotId) (l : Lines) (s : State) : (sampleSlot n l s).1.lightPart = s.lightPart := by
  unfold sampleSlot
  refine Eff.andThen_keeps State.lightPart ?_ (judgeLatchLine_lightPart n _)
  refine Eff.andThen_keeps State.lightPart ?_ (judgePgoodLine_lightPart n _)
  refine Eff.andThen_keeps State.lightPart ?_ (judgeFaultLine_lightPart n _)
  rw [judgePresentLine_lightPart, modSwap_lightPart]

theorem takeSlotCommand_lightPart (n : SlotId) (w : Word) (s : State) :
    (takeSlotCommand n w s).1.lightPart = s.lightPart := by
  unfold takeSlotCommand; split
  · unfold takePowerOn; simp only; split
    · rw [takeSeat_lightPart]; rfl
    · rfl
  · unfold takeRemove; simp only
    split
    · rw [takeTurnOff_lightPart]; rfl
    · rw [takeTurnOff_lightPart]; rfl
    · rw [takeTurnOff_lightPart]; rfl
    · rw [takeQuiesce_lightPart]; rfl
    · rfl
    · rfl
    · rw [takeTurnOff_lightPart]; rfl
    · rfl
  · unfold takeClearLockout; split
    · rw [takeSeat_lightPart]; rfl
    · rfl
  · rfl
theorem policyActs_lightPart (n : SlotId) (old : Policy) (s : State) :
    (policyActs n old s).1.lightPart = s.lightPart := by
  unfold policyActs; split
  · split
    · rw [takeTurnOff_lightPart]
    · rw [takeTurnOff_lightPart]
    · rw [takeTurnOff_lightPart]
    · rw [takeQuiesce_lightPart]
    · rfl
    · rfl
    · rfl
  · split
    · rw [takeSeat_lightPart]
    · rfl

theorem markSheds_lightPart (k : Nat) (s : State) : (markSheds k s).1.lightPart = s.lightPart := by
  induction k generalizing s with
  | zero => rfl
  | succ k ih =>
    unfold markSheds; split
    · split
      · exact (ih _).trans (modAdm_lightPart _ _ _)
      · rfl
    · rfl

theorem takeShed_lightPart (n : SlotId) (s : State) : (takeShed n s).1.lightPart = s.lightPart := by
  unfold takeShed; split
  · exact takeTurnOff_lightPart _ _ _
  · exact takeTurnOff_lightPart _ _ _
  · exact takeQuiesce_lightPart _ _ _
  · rfl
  · rfl

theorem formBudget_lightPart (s : State) : (formBudget s).1.lightPart = s.lightPart :=
  (foldEff_keeps State.lightPart takeShed_lightPart _ _).trans (markSheds_lightPart 12 s)

theorem tellShed_lightPart {act : State → Eff} (h : ∀ t, (act t).1.lightPart = t.lightPart) (s : State) :
    (tellShed act s).1.lightPart = s.lightPart := by
  unfold tellShed; simp only; split
  · exact h s
  · exact Eff.andThen_keeps State.lightPart (h s) fun t => (formBudget_lightPart _).trans (lightPart_onBattery t _)

/-! ## Events -/

/-- An input taken leaves the light frame alone. -/
theorem takeInput_lightPart (i : Input) (s : State) : (takeInput i s).1.lightPart = s.lightPart :=
  tellShed_lightPart (fun t => lightPart_of_reportPart (inputAct_reportPart i t)) s

/-- Inputs taken and slots admitted: the light frame stands. -/
theorem settle_lightPart (k : Nat) (is : List Input) (s : State) : (settle k is s).lightPart = s.lightPart :=
  settle_keeps (fun t => t.lightPart = s.lightPart) (fun i t ht => (takeInput_lightPart i t).trans ht)
    (fun n t _ ht => (admitSlot_lightPart n t).trans ht) k is s rfl

@[simp] theorem stampRecords_lightPart (k : Nat) (s : State) : (stampRecords k s).lightPart = s.lightPart := rfl
@[simp] theorem stampRecords_reportPart (k : Nat) (s : State) : (stampRecords k s).reportPart = s.reportPart := rfl

/-- An event leaves the light frame as its own act left it. -/
theorem event_lightPart (act : State → Eff) (s : State) : (event act s).lightPart = (act s).1.lightPart :=
  settle_lightPart _ _ _

theorem event_anyPart (act : State → Eff) (s : State) : (event act s).anyPart = (act s).1.anyPart :=
  anyPart_of_lightPart (event_lightPart act s)

/-- Memory changes in an event's own act alone: its bytes change at completions (R35). -/
theorem event_mem (act : State → Eff) (s : State) : (event act s).mem = (act s).1.mem :=
  congrArg (fun p => p.2.2.2.2.1) (event_anyPart act s)

/-- The commands that wait are those the event's own act leaves. -/
theorem event_pending (act : State → Eff) (s : State) : (event act s).pending = (act s).1.pending :=
  congrArg (fun p => p.1) (event_anyPart act s)

/-- An event leaves the configuration as its own act left it. -/
theorem event_cfg (act : State → Eff) (s : State) : (event act s).cfg = (act s).1.cfg :=
  show (event act s).lightPart.cfg = (act s).1.lightPart.cfg by rw [event_lightPart]

/-- An event leaves the timebase as its own act left it. -/
theorem event_time (act : State → Eff) (s : State) : (event act s).time = (act s).1.time :=
  show (event act s).lightPart.time = (act s).1.lightPart.time by rw [event_lightPart]

/-- An event leaves the references as its own act left them. -/
theorem event_refs (act : State → Eff) (s : State) : (event act s).refs = (act s).1.refs :=
  show (event act s).lightPart.refs = (act s).1.lightPart.refs by rw [event_lightPart]

/-- An event leaves the converter as its own act left it. -/
theorem event_scan (act : State → Eff) (s : State) : (event act s).scan = (act s).1.scan :=
  show (event act s).lightPart.scan = (act s).1.lightPart.scan by rw [event_lightPart]

/-- An event leaves the channels as its own act left them. -/
theorem event_channels (act : State → Eff) (s : State) : (event act s).channels = (act s).1.channels :=
  show (event act s).lightPart.channels = (act s).1.lightPart.channels by rw [event_lightPart]

/-- An event leaves the TIME latches as its own act left them. -/
theorem event_latches (act : State → Eff) (s : State) : (event act s).latches = (act s).1.latches :=
  show (event act s).lightPart.latches = (act s).1.lightPart.latches by rw [event_lightPart]

/-- No slot is admitted now (R152). -/
def State.noAdmission (s : State) : Prop := admissible s = none

theorem noAdmission_of_reportPart {s t : State} (h : t.reportPart = s.reportPart) (hs : s.noAdmission) : t.noAdmission := by
  have : admissible t.reportPart = admissible s.reportPart := by rw [h]
  exact (show admissible t = admissible s from this).trans hs

/-- An event after whose own act no point carries a shed-trigger mark and no slot is to be admitted changes from then on
nothing but points, relays, change marks, notice lists and the log writer. -/
theorem event_reportPart (act : State → Eff) (s : State) (hs : (act s).1.noTrigger) (ha : (act s).1.noAdmission) :
    (event act s).reportPart = (act s).1.reportPart := by
  refine event_keeps (fun t => t.reportPart = (act s).1.reportPart) ?_ ?_ (fun k t ht => ht) act s rfl
  · intro i t ht
    rw [takeInput_quiet i (noTrigger_of_reportPart ht hs)]
    exact (inputAct_reportPart i t).trans ht
  · intro n t hn ht
    have h : admissible t = none := noAdmission_of_reportPart ht ha
    rw [h] at hn
    cases hn

/-! ## Words and warm resets -/

@[simp] theorem appendWord_lightPart (n : SlotId) (w : WriteWord) (s : State) :
    (appendWord n w s).lightPart = s.lightPart := by unfold appendWord; split <;> rfl

@[simp] theorem recordFault_lightPart (n : SlotId) (a : Word) (k : AccessKind) (s : State) :
    (recordFault n a k s).1.lightPart = s.lightPart := rfl

@[simp] theorem withdrawZeroing_lightPart (q : QueueId) (s : State) : (withdrawZeroing q s).lightPart = s.lightPart := by
  unfold withdrawZeroing; split <;> rfl

@[simp] theorem takeOpen_lightPart (q : QueueId) (s : State) : (takeOpen q s).lightPart = s.lightPart := by
  unfold takeOpen; simp only; split_ifs <;> rfl

@[simp] theorem takeClose_lightPart (q : QueueId) (s : State) : (takeClose q s).lightPart = s.lightPart := by
  unfold takeClose; split_ifs
  · rfl
  · exact withdrawZeroing_lightPart q _

@[simp] theorem carryOutWarm_anyPart (s : State) : (carryOutWarm s).anyPart = s.anyPart := by
  simp only [State.anyPart, carryOutWarm, warmStaging, emptyLists, closeQueues, warmLinks]

@[simp] theorem warmIfDue_anyPart (s : State) : (warmIfDue s).anyPart = s.anyPart := by
  unfold warmIfDue; split
  · exact carryOutWarm_anyPart s
  · rfl

@[simp] theorem takeWarm_anyPart (s : State) : (takeWarm s).anyPart = s.anyPart := by
  unfold takeWarm; split
  · rfl
  · exact carryOutWarm_anyPart s

theorem startPass_anyPart (s : State) : (startPass s).anyPart = s.anyPart := by unfold startPass; split <;> rfl
theorem endPass_anyPart (s : State) : (endPass s).anyPart = s.anyPart := by
  unfold endPass; split
  · exact startPass_anyPart _
  · rfl
theorem nextChannel_anyPart (j : ChannelId) (s : State) : (nextChannel j s).anyPart = s.anyPart := by
  unfold nextChannel; split
  · rfl
  · exact endPass_anyPart s
theorem takeScanNow_anyPart (s : State) : (takeScanNow s).anyPart = s.anyPart := by
  unfold takeScanNow; split
  · rfl
  · exact startPass_anyPart s

theorem takeChannelConfig_anyPart (j : ChannelId) (c : ChannelCfg) (s : State) :
    (takeChannelConfig j c s).1.anyPart = s.anyPart := by
  unfold takeChannelConfig; simp only; split_ifs
  · exact nextChannel_anyPart j _
  · rfl
  · exact nextChannel_anyPart j _
  · rfl

theorem chooseActive_anyPart (s : State) : (chooseActive s).1.anyPart = s.anyPart := by
  unfold chooseActive; simp only; split
  · split_ifs <;> rfl
  · rfl
  · rfl

theorem takeRefConfig_anyPart (r : RefId) (e : Bool) (p : Nat) (s : State) :
    (takeRefConfig r e p s).1.anyPart = s.anyPart := by
  unfold takeRefConfig; simp only; rw [chooseActive_anyPart]; split_ifs <;> rfl

theorem takeAckWord_lightPart (w : Word) (s : State) : (takeAckWord w s).1.lightPart = s.lightPart :=
  foldEff_keeps State.lightPart
    (fun p t => tellShed_lightPart (fun u => lightPart_of_reportPart (ackPoint_reportPart p u)) t) _ s

theorem takeGlobalWord_anyPart (k : Nat) (w : Word) (s : State) : (takeGlobalWord k w s).1.anyPart = s.anyPart := by
  unfold takeGlobalWord; split
  · split_ifs <;> simp
  · exact anyPart_of_lightPart (takeAckWord_lightPart w s)
  · split_ifs
    · exact takeScanNow_anyPart s
    · rfl
  · split_ifs <;> rfl
  · rfl
  · rfl
  · rfl
  · exact (anyPart_of_lightPart (formBudget_lightPart _)).trans rfl
  · exact takeRefConfig_anyPart _ _ _ _
  · exact takeRefConfig_anyPart _ _ _ _
  · rfl
  · simp only [takeLogBase]; split_ifs <;> rfl
  · simp only [takeLogCode]; split_ifs <;> rfl
  · simp only [takeLogRead]; split_ifs <;> rfl
  · split_ifs
    · exact takeChannelConfig_anyPart _ _ _
    · rfl
    · rfl

theorem takeSlotWord_anyPart (n : SlotId) (k : Nat) (be : Mask) (w : Word) (s : State) :
    (takeSlotWord n k be w s).1.anyPart = s.anyPart := by
  unfold takeSlotWord; simp only; split
  · split_ifs
    · exact (anyPart_of_lightPart (policyActs_lightPart _ _ _)).trans rfl
    · rfl
  · rfl
  · exact anyPart_of_lightPart (takeSlotCommand_lightPart _ _ _)
  · rfl

theorem takeQueueWord_anyPart (q : QueueId) (k : Nat) (be : Mask) (w : Word) (s : State) :
    (takeQueueWord q k be w s).anyPart = s.anyPart := by
  unfold takeQueueWord; split_ifs
  · split
    · exact anyPart_of_lightPart (takeOpen_lightPart q s)
    · exact anyPart_of_lightPart (takeClose_lightPart q s)
    · rfl
  · rfl
  · rfl

theorem takeGroupWord_anyPart (g : GroupId) (k : Nat) (w : Word) (s : State) :
    (takeGroupWord g k w s).anyPart = s.anyPart := by unfold takeGroupWord; simp only; split <;> rfl

theorem takePointWord_anyPart (p : PointId) (k : Nat) (w : Word) (s : State) :
    (takePointWord p k w s).1.anyPart = s.anyPart := by
  have h : ∀ t, (((pointActs p t.cfg.points[p] (judgePoint t.cfg.points[p] k w) (setPointCfg p k w t)).andThen
      fun t1 => (judgeRelays t1, [])).1).anyPart = t.anyPart := fun t =>
    (anyPart_of_lightPart ((judgeRelays_lightPart _).trans
      (lightPart_of_reportPart (pointActs_reportPart p _ _ (setPointCfg p k w t))))).trans rfl
  unfold takePointWord tellShed; simp only; split_ifs
  · exact h s
  · exact Eff.andThen_keeps State.anyPart (h s) fun t => (anyPart_of_lightPart (formBudget_lightPart _)).trans rfl
  · rfl

theorem takeFormed_anyPart (loc : RegionLoc) (be : Mask) (w : Word) (s : State) :
    (takeFormed loc be w s).1.anyPart = s.anyPart := by
  unfold takeFormed; split
  · exact takeGlobalWord_anyPart _ _ _
  · exact takeSlotWord_anyPart _ _ _ _ _
  · rfl
  · exact takeQueueWord_anyPart _ _ _ _ _
  · exact takeGroupWord_anyPart _ _ _ _
  · exact takePointWord_anyPart _ _ _ _
  · rfl

theorem judgeIndex_lightPart (n : SlotId) (q : QueueId) (b : Bool) (new : Nat) (s : State) :
    (judgeIndex n q b new s).eff.1.lightPart = s.lightPart := by
  unfold judgeIndex; simp only; split_ifs <;> try rfl
  · unfold producerAdvance; simp only; split_ifs
    · exact (queueNotice_lightPart _ _ _ _).trans rfl
    · rfl
  · exact (queueNotice_lightPart _ _ _ _).trans rfl
  · unfold consumerAdvance; simp only; split_ifs
    · exact (queueNotice_lightPart _ _ _ _).trans rfl
    · rfl

theorem takeStaged_lightPart (n : SlotId) (g : GroupId) (a : Nat) (d : Word) (be : Mask) (s : State) :
    (takeStaged n g a d be s).lightPart = s.lightPart := by unfold takeStaged; simp only; split_ifs <;> rfl

theorem takeArmWord_lightPart (g : GroupId) (d : Word) (be : Mask) (s : State) :
    (takeArmWord g d be s).lightPart = s.lightPart := by unfold takeArmWord; split_ifs <;> (try split) <;> rfl

theorem showRegion_anyPart (n : SlotId) (sa : Word) (a : Nat) (d : Word) (be : Mask) (f : Bool) (s : State) :
    (showRegion n sa a d be f s).1.anyPart = s.anyPart := by
  unfold showRegion; split_ifs
  · rfl
  · rfl
  · exact (anyPart_of_lightPart (appendWord_lightPart n _ _)).trans (takeFormed_anyPart _ _ _ _)

theorem showIndex_lightPart (n : SlotId) (sa : Word) (a : Nat) (q : QueueId) (b : Bool) (d : Word) (be : Mask) (s : State) :
    (showIndex n sa a q b d be s).1.lightPart = s.lightPart := by
  unfold showIndex; simp only
  refine Eff.andThen_keeps State.lightPart (judgeIndex_lightPart n q b _ s) ?_
  intro t
  have h : ∀ (c : Bool) (w : WriteWord), (if c then appendWord n w t else t).lightPart = t.lightPart := by
    intro c w; split
    · exact appendWord_lightPart _ _ _
    · rfl
  split
  · exact (recordFault_lightPart _ _ _ _).trans (h _ _)
  · exact h _ _

theorem showWord_anyPart (n : SlotId) (sa : Word) (a : Nat) (d : Word) (be : Mask) (f : Bool) (s : State) :
    (showWord n sa a d be f s).1.anyPart = s.anyPart := by
  unfold showWord; split
  · exact showRegion_anyPart _ _ _ _ _ _ _
  · split
    · exact anyPart_of_lightPart (showIndex_lightPart _ _ _ _ _ _ _ _)
    · exact anyPart_of_lightPart (appendWord_lightPart _ _ _)

theorem showWords_anyPart (n : SlotId) : ∀ (rs : List Routed) (f : Bool) (s : State),
    (showWords n rs f s).1.anyPart = s.anyPart
  | [], _, _ => rfl
  | .mem sa a d be :: rest, f, s =>
    Eff.andThen_keeps State.anyPart (showWord_anyPart n sa a d be f s) fun t => showWords_anyPart n rest _ t
  | .staging _ :: rest, f, s => showWords_anyPart n rest f s

theorem takeStagingWord_lightPart (n : SlotId) (s : State) (k : StagingWord) :
    (takeStagingWord n s k).lightPart = s.lightPart := by
  cases k
  · exact takeStaged_lightPart _ _ _ _ _ _
  · exact takeArmWord_lightPart _ _ _ _

theorem handStaging_lightPart (n : SlotId) : ∀ (ks : List StagingWord) (s : State),
    (handStaging n ks s).lightPart = s.lightPart
  | [], _ => rfl
  | k :: rest, s => (handStaging_lightPart n rest _).trans (takeStagingWord_lightPart n s k)

theorem keepOrHand_lightPart (n : SlotId) (ks : List StagingWord) (s : State) :
    (keepOrHand n ks s).lightPart = s.lightPart := by
  unfold keepOrHand; split
  · rfl
  · exact handStaging_lightPart _ _ _

/-- The words of a WRITE leave memory, the transaction in flight, the waiting commands and the frame number alone. -/
theorem takeWords_anyPart (n : SlotId) (rs : List Routed) (s : State) : (takeWords n rs s).1.anyPart = s.anyPart :=
  Eff.andThen_keeps State.anyPart (showWords_anyPart n rs false s) fun t => anyPart_of_lightPart (keepOrHand_lightPart n _ t)

end Sys2Proof.Machine
end

