-- ==== Sys2Proof/Laws/Points.lean ====
section
/-! SUPPORT. What the alarm unit's acts do to the points themselves, whatever they report, and the small lemmas of the terms in
which the statements speak of points and millisecond timers. -/

namespace Sys2Proof.Machine

open Sys2Proof

/-! ## Timers and repeated events -/

@[simp] theorem counted_true (x : Timer) : counted true x = x.tick := by
  match x with
  | none => rfl
  | some 0 => rfl
  | some (_ + 1) => rfl

@[simp] theorem counted_false (x : Timer) : counted false x = x := by cases x <;> rfl

@[simp] theorem hitPoint_zero (enable : Bool) (x : Point) : hitPoint enable 0 x = x := by simp [hitPoint]

@[simp] theorem hitPoint_disabled (k : Nat) (x : Point) : hitPoint false k x = x := by simp [hitPoint]

/-- k events and one more are k + 1 events (R163). -/
theorem hitPoint_succ (enable : Bool) (k : Nat) (x : Point) :
    hitPoint enable 1 (hitPoint enable k x) = hitPoint enable (k + 1) x := by
  cases enable with
  | false => simp
  | true =>
    cases k with
    | zero => simp
    | succ k => simp only [hitPoint, Nat.succ_pos, and_self, if_true]; congr 1; omega

/-! ## The phase error and the rounding division -/

/-- The loop's phase error is R104's. -/
theorem phaseError_isPhaseError (ns delay : Nat) : IsPhaseError ns delay (phaseError ns delay) := by
  refine ⟨_, rfl, ?_⟩
  unfold phaseError
  dsimp only
  split_ifs <;> omega

/-- div_r rounds to nearest, halves away from zero (R97). -/
theorem divR_isRounded (x : Int) (k : Nat) : IsRounded x k (divR x k) := by
  unfold IsRounded divR
  by_cases hk : k = 0
  · subst hk; simp
  obtain ⟨j, rfl⟩ := Nat.exists_eq_succ_of_ne_zero hk
  rw [if_neg hk]
  have hp : (2 : Int) ^ (j + 1) = 2 * ((2 ^ j : Nat) : Int) := by push_cast; ring
  have hn : (2 : Nat) ^ (j + 1) = 2 * 2 ^ j := by ring
  simp only [Nat.succ_eq_add_one, Nat.add_sub_cancel, hp, hn]
  generalize hm : (2 : Nat) ^ j = m
  have hpos : 0 < m := hm ▸ Nat.two_pow_pos j
  have h1 := Nat.div_add_mod (x.natAbs + m) (2 * m)
  have h2 := Nat.mod_lt (x.natAbs + m) (Nat.mul_pos (by decide : 0 < 2) hpos)
  generalize (x.natAbs + m) / (2 * m) = q at *
  have h3 : (q : Int) * (2 * (m : Int)) = ((2 * m * q : Nat) : Int) := by push_cast; ring
  by_cases hx : x < 0
  · simp only [if_pos hx, neg_mul, h3]
    generalize 2 * m * q = y at *
    rw [abs_neg, Nat.abs_cast]
    constructor
    · rw [show |-(y : Int) - x| = |(y : Int) + x| by rw [← abs_neg]; ring_nf]
      rcases abs_cases ((y : Int) + x) with h | h <;> omega
    · intro h
      rw [show |-(y : Int) - x| = |(y : Int) + x| by rw [← abs_neg]; ring_nf] at h
      rw [abs_of_neg hx]
      rcases abs_cases ((y : Int) + x) with h' | h' <;> omega
  · simp only [if_neg hx, h3]
    generalize 2 * m * q = y at *
    rw [Nat.abs_cast, abs_of_nonneg (not_lt.1 hx)]
    constructor
    · rcases abs_cases ((y : Int) - x) with h | h <;> omega
    · intro h
      rcases abs_cases ((y : Int) - x) with h' | h' <;> omega

/-! ## Points under the alarm unit's acts -/

theorem handNotice_points (n : SlotId) (id : NoticeId) (d : Details) (s : State) :
    (handNotice n id d s).1.points = s.points := by
  unfold handNotice; simp only; split_ifs <;> rfl

theorem takeRecord_points (d : LogDraft) (s : State) : (takeRecord d s).1.points = s.points := by
  unfold takeRecord; simp only; split_ifs <;> rfl

theorem reportChange_points (p : PointId) (ch : Change) (s : State) : (reportChange p ch s).1.points = s.points :=
  Eff.andThen_keeps State.points (foldEff_keeps State.points (fun n t => handNotice_points n _ _ t) _ s)
    fun t => takeRecord_points _ t

theorem setPoint_points (p : PointId) (f : Point → Point) (s : State) : (setPoint p f s).points = (s.modPoint p f).points := by
  unfold setPoint; split <;> rfl

/-- A change of point p changes point p alone, as the change says. -/
theorem changePoint_points (p : PointId) (f : Point → Point) (ch : Option Change) (s : State) :
    (changePoint p f ch s).1.points = (s.modPoint p f).points := by
  unfold changePoint; split
  · exact (reportChange_points _ _ _).trans (setPoint_points p f s)
  · exact setPoint_points p f s

/-- An event of point p hits that point once and no other (R163). -/
theorem takeEvent_points (p : PointId) (s : State) :
    (takeEvent p s).1.points = (s.modPoint p (hitPoint s.cfg.points[p].enable 1)).points := by
  unfold takeEvent
  cases h : s.cfg.points[p].enable with
  | false => simp [State.modPoint, hitPoint]
  | true =>
    simp only [if_true]
    split <;> (unfold raisePoint; rw [changePoint_points]; rfl)

end Sys2Proof.Machine
end

