-- ==== Sys2Proof/Laws/Region.lean ====
section
/-! SUPPORT. What a one-word WRITE that reaches a place does, once over: it arrives, is taken, and its word goes to its end; and
what the grant of a slot's transaction does, with the words a WRITE kept for the staging unit. -/

namespace Sys2Proof.Machine

open Sys2Proof

/-- The port of slot n once a one-word WRITE has arrived at its empty buffer and been taken (R8, R9, R10). -/
def State.passedWord (s : State) (n : SlotId) : State :=
  s.modLink n fun l => markGo { l with failRun := 0, buffer := [] }

@[simp] theorem passedWord_lightPart (s : State) (n : SlotId) : (s.passedWord n).lightPart = s.lightPart := rfl
@[simp] theorem passedWord_cfg (s : State) (n : SlotId) : (s.passedWord n).cfg = s.cfg := rfl
@[simp] theorem passedWord_port (s : State) (n : SlotId) : (s.passedWord n).port = s.port := rfl

theorem enablesOf_one (be : Mask) : enablesOf be be 1 0 = be := by simp [enablesOf]

theorem reaches_iff (s : State) (o : Origin) (d : Dest) :
    reaches s o d = true ↔ s.links[o.slot].state = .opened ∧ s.port.waiting[o.slot] = none ∧ s.links[o.slot].buffer = [] ∧
      placeBurst s writeOutcome o.slot o.addr 1 = [{ addr := firstWord o.addr, dest := d, outcome := .pass }] := by
  simp [reaches, idlePort, and_assoc]

theorem storeFrame_empty (r : Request) (l : LinkPort) (h : l.buffer = []) :
    popFrame (storeFrame r { l with failRun := 0 }) = markGo { l with failRun := 0, buffer := [] } := by
  simp [storeFrame, markHold, popFrame, h]

/-- Two changes of one port are one change. -/
theorem modLink_modLink (s : State) (i : SlotId) (f g h : LinkPort → LinkPort) (e : g (f s.links[i]) = h s.links[i]) :
    (s.modLink i f).modLink i g = s.modLink i h := by
  unfold State.modLink
  rw [← e]
  simp only [Vector.set_set, Fin.getElem_fin, Vector.getElem_set_self]

theorem requestArrives_opened (r : Request) (l : LinkPort) (h : l.state = .opened) :
    requestArrives r l = storeFrame r { l with failRun := 0 } := by simp [requestArrives, h]

theorem storeFrame_empty_buffer (r : Request) (l : LinkPort) (h : l.buffer = []) :
    (storeFrame r { l with failRun := 0 }).buffer = [r] := by simp [storeFrame, markHold, h]

theorem storeFrame_empty_state (r : Request) (l : LinkPort) (h : l.buffer = []) :
    (storeFrame r { l with failRun := 0 }).state = l.state := by simp [storeFrame, markHold, h]

/-- With no word for the staging unit a request keeps none and hands none. -/
@[simp] theorem keepOrHand_nil (n : SlotId) (s : State) : keepOrHand n [] s = s := by
  unfold keepOrHand; split
  · rename_i ws kept h
    have h2 : s.port.waiting.set n.val (some (.write ws kept)) = s.port.waiting := by
      apply Vector.ext; intro i hi
      by_cases e : n.val = i
      · subst e; rw [Vector.getElem_set_self]; exact h.symm
      · rw [Vector.getElem_set_ne _ _ e]
    simp only [List.append_nil, State.setWaiting, h2]
  · rfl

/-- A request that waits for no grant hands its words to the staging unit as it is taken (R30). -/
theorem keepOrHand_idle {n : SlotId} {s : State} (h : s.port.waiting[n] = none) (ks : List StagingWord) :
    keepOrHand n ks s = handStaging n ks s := by unfold keepOrHand; rw [h]

/-- A request with a transaction keeps them for its grant (R30, R37). -/
theorem keepOrHand_waiting {n : SlotId} {s : State} {ws : List WriteWord} {kept : List StagingWord}
    (h : s.port.waiting[n] = some (.write ws kept)) (ks : List StagingWord) :
    keepOrHand n ks s = s.setWaiting n (some (.write ws (kept ++ ks))) := by unfold keepOrHand; rw [h]

/-- One word handed to the staging unit changes its list and its groups alone (R28). -/
theorem takeStagingWord_eq (n : SlotId) (s : State) (k : StagingWord) :
    takeStagingWord n s k =
      { s with staged := (takeStagingWord n s k).staged, groups := (takeStagingWord n s k).groups } := by
  cases k
  · simp only [takeStagingWord]; unfold takeStaged; simp only; split_ifs <;> rfl
  · simp only [takeStagingWord]; unfold takeArmWord; split_ifs
    · split <;> rfl
    · rfl

/-- So do all the words of a request (R28). -/
theorem handStaging_eq (n : SlotId) : ∀ (ks : List StagingWord) (s : State),
    handStaging n ks s = { s with staged := (handStaging n ks s).staged, groups := (handStaging n ks s).groups }
  | [], _ => rfl
  | k :: rest, s => by
    have e := takeStagingWord_eq n s k
    have h := handStaging_eq n rest (takeStagingWord n s k)
    show handStaging n rest (takeStagingWord n s k) =
      { s with staged := (handStaging n rest (takeStagingWord n s k)).staged,
               groups := (handStaging n rest (takeStagingWord n s k)).groups }
    generalize handStaging n rest (takeStagingWord n s k) = u at h ⊢
    generalize takeStagingWord n s k = t at e h
    calc u = { t with staged := u.staged, groups := u.groups } := h
      _ = { s with staged := u.staged, groups := u.groups } := by rw [e]

theorem takeStaged_port (n : SlotId) (g : GroupId) (a : Nat) (d : Word) (be : Mask) (s : State) (p : MemPort) :
    takeStaged n g a d be { s with port := p } = { takeStaged n g a d be s with port := p } := by
  unfold takeStaged
  simp only [show live { s with port := p } n = live s n from rfl,
    show stageable { s with port := p } g a = stageable s g a from rfl]
  by_cases h1 : be = 0#4 ∨ live s n = false ∨ stageable s g a = false
  · rw [if_pos h1, if_pos h1]
  · rw [if_neg h1, if_neg h1]
    split_ifs <;> rfl

theorem takeArmWord_port (g : GroupId) (d : Word) (be : Mask) (s : State) (p : MemPort) :
    takeArmWord g d be { s with port := p } = { takeArmWord g d be s with port := p } := by
  unfold takeArmWord
  split_ifs
  · split <;> rfl
  · rfl

/-- The staging unit does not look at the memory port. -/
theorem takeStagingWord_port (n : SlotId) (s : State) (k : StagingWord) (p : MemPort) :
    takeStagingWord n { s with port := p } k = { takeStagingWord n s k with port := p } := by
  cases k
  · exact takeStaged_port _ _ _ _ _ _ _
  · exact takeArmWord_port _ _ _ _ _

theorem handStaging_port (n : SlotId) (p : MemPort) : ∀ (ks : List StagingWord) (s : State),
    handStaging n ks { s with port := p } = { handStaging n ks s with port := p }
  | [], _ => rfl
  | k :: rest, s => by
    show handStaging n rest (takeStagingWord n { s with port := p } k) = _
    rw [takeStagingWord_port]
    exact handStaging_port n p rest _

/-- What the grant of slot n's transaction does (R30, R34, R37): the port carries it, and the words it kept act. -/
theorem grantSlot_eq (n : SlotId) (s : State) :
    grantSlot n s =
      { s with port := { s.port with flight := slotFlight s n, waiting := s.port.waiting.set n none, last := n },
               staged := (handStaging n (keptWords s.port.waiting[n]) s).staged,
               groups := (handStaging n (keptWords s.port.waiting[n]) s).groups } := by
  unfold grantSlot
  rw [handStaging_port, handStaging_eq]

/-- Two acts that agree on a state make one event of it. -/
theorem event_congr {a b : State → Eff} {s : State} (h : a s = b s) : event a s = event b s := by unfold event; rw [h]

/-- The event of a one-word WRITE that reaches a place: its word goes to its end. -/
theorem sendWrite_eq {s : State} {o : Origin} {d : Dest} (h : reaches s o d = true) (data : Word) (be : Mask) :
    sendWrite o data be s =
      event (takeWords o.slot (routeWord { addr := firstWord o.addr, dest := d, outcome := .pass } data be).toList)
        (s.passedWord o.slot) := by
  obtain ⟨hl, hw, hb, hp⟩ := (reaches_iff s o d).1 h
  have h0 := requestArrives_opened (.write o.addr be be [data]) s.links[o.slot] hl
  have h1 : (s.modLink o.slot (requestArrives (.write o.addr be be [data]))).links[o.slot] =
      storeFrame (.write o.addr be be [data]) { s.links[o.slot] with failRun := 0 } := by
    rw [State.modLink_get_self, h0]
  have hbuf := storeFrame_empty_buffer (.write o.addr be be [data]) s.links[o.slot] hb
  have hst := (storeFrame_empty_state (.write o.addr be be [data]) s.links[o.slot] hb).trans hl
  have hw2 : headWrite (s.modLink o.slot (requestArrives (.write o.addr be be [data]))) o.slot =
      some (o.addr, be, be, [data]) := by
    simp only [headWrite, idlePort, h1, hbuf, hst, State.modLink_port, hw]; rfl
  have hs : (s.modLink o.slot (requestArrives (.write o.addr be be [data]))).modLink o.slot popFrame =
      s.passedWord o.slot := by
    refine modLink_modLink _ _ _ _ _ ?_
    rw [h0]
    exact storeFrame_empty _ _ hb
  have hpl : placeBurst (s.passedWord o.slot) writeOutcome o.slot o.addr 1 = placeBurst s writeOutcome o.slot o.addr 1 := rfl
  unfold sendWrite takeHeadWrite
  rw [hw2]
  simp only
  rw [hs]
  refine event_congr ?_
  unfold takeWrite
  simp only [List.length_singleton]
  rw [hpl, hp]
  have hr : recordWorst o.slot [{ addr := firstWord o.addr, dest := d, outcome := .pass }] (s.passedWord o.slot) =
      (s.passedWord o.slot, []) := by
    simp [recordWorst, worst, outcomeKind, rank]
  rw [hr]
  simp only [Eff.andThen, List.nil_append, routeBurst, List.length_singleton]
  cases hq : routeWord { addr := firstWord o.addr, dest := d, outcome := .pass } data be <;>
    simp [enablesOf_one, hq, List.range_succ]

/-- A region word taken from slot n, with the word joined to the slot's write transaction (R27, R191). -/
def regionTaken (n : SlotId) (idx : RegionIdx) (data : Word) (be : Mask) (s : State) : Eff :=
  (takeRegion idx data be s).andThen fun t =>
    (appendWord n { addr := regionBase s + 4 * idx.val, data := 0#32, mask := Mask.all, region := true } t, [])

theorem regionIdx_of (s : State) (idx : RegionIdx) : regionIdx s (regionBase s + 4 * idx.val) = idx := by
  apply Fin.ext
  simp only [regionIdx]
  have := idx.isLt
  omega

theorem inRegion_of (s : State) (idx : RegionIdx) : inRegion s (regionBase s + 4 * idx.val) = true := by
  have := idx.isLt
  simp only [inRegion, decide_eq_true_eq]
  omega

/-- The event of a region write that reaches its word: the word taken from the state the WRITE left (R27, R190, R191). -/
theorem regionWrite_eq {s : State} {o : Origin} {idx : RegionIdx}
    (h : reaches s o (.mem (regionBase s + 4 * idx.val)) = true) (hr : s.cfg.slots[o.slot].right = true) (data : Word)
    (be : Mask) :
    regionWrite o idx data be s = event (regionTaken o.slot idx data be) (s.passedWord o.slot) := by
  unfold regionWrite
  rw [if_pos h, sendWrite_eq h]
  refine event_congr ?_
  have h1 : inRegion (s.passedWord o.slot) (regionBase s + 4 * idx.val) = true := inRegion_of s idx
  have h2 : regionIdx (s.passedWord o.slot) (regionBase s + 4 * idx.val) = idx := regionIdx_of s idx
  have h3 : refusedWord (s.passedWord o.slot) o.slot (regionBase s + 4 * idx.val) = false := by
    simp only [refusedWord, h1, passedWord_cfg, hr]; rfl
  simp only [routeWord, if_true, Option.toList_some, takeWords, showWords, stagingWords, List.filterMap_cons, List.filterMap_nil, keepOrHand_nil, showWord, h1, showRegion, h2, h3, regionTaken, Eff.andThen,
    List.append_nil, Bool.false_eq_true, if_false]
  rfl

/-- The event of an arm-word write that reaches its word (R79). -/
theorem armWrite_eq {s : State} {o : Origin} {g : GroupId} (h : reaches s o (.arm g (armAddr s.cfg.groups[g])) = true)
    (data : Word) (be : Mask) :
    armWrite o g data be s = event (fun t => (takeArmWord g data be t, [])) (s.passedWord o.slot) := by
  unfold armWrite
  rw [if_pos h, sendWrite_eq h]
  refine event_congr ?_
  have hw : (s.passedWord o.slot).port.waiting[o.slot] = none := by
    rw [passedWord_port]; exact ((reaches_iff s o _).1 h).2.1
  simp only [routeWord, if_true, Option.toList_some, takeWords, showWords, stagingWords, List.filterMap_cons, List.filterMap_nil,
    Eff.andThen, keepOrHand_idle hw, handStaging, List.foldl_cons, List.foldl_nil, takeStagingWord, List.append_nil]

/-- What a region write leaves alone after its word is taken (R191). -/
theorem regionWrite_lightPart {s : State} {o : Origin} {idx : RegionIdx}
    (h : reaches s o (.mem (regionBase s + 4 * idx.val)) = true) (hr : s.cfg.slots[o.slot].right = true) (data : Word)
    (be : Mask) :
    (regionWrite o idx data be s).lightPart = (takeRegion idx data be (s.passedWord o.slot)).1.lightPart := by
  rw [regionWrite_eq h hr, event_lightPart]
  exact appendWord_lightPart _ _ _

/-- A write of one region word leaves memory as it is: its transaction still waits (R33, R35). -/
theorem regionWrite_mem (o : Origin) (idx : RegionIdx) (data : Word) (be : Mask) (s : State) :
    (regionWrite o idx data be s).mem = s.mem := by
  unfold regionWrite; split
  · rename_i h
    rw [sendWrite_eq h, event_mem]
    exact congrArg (fun p => p.2.2.2.2.1) (takeWords_anyPart _ _ (s.passedWord o.slot))
  · rfl

end Sys2Proof.Machine
end

