-- ==== Sys2Proof/Tests/Slice0.lean ====
section
/-! SUPPORT. Tests on small states: ill-formed commands refused by `Instr.wellFormed`, one or two single steps per command
against values read off the rules of spec/ by hand (`test_…`), and for each statement a state and operands that meet its
hypotheses, clause by clause (`witness_…`). -/

namespace Sys2Proof.Tests

open Sys2Proof Sys2Proof.Machine

/-! ## States the tests start from -/

/-- The state after a command that answers a next state. -/
def after (c : Instr) (s : State) : State :=
  match exec c s with
  | .next t => t
  | _ => s

/-- Cold start-up over, slot 0's card ACTIVE behind an OPEN link. Slot 0 holds the control right and window 0 spans memory, so
slot address and physical address agree. -/
def card : State :=
  { ((State.reset.modSwap 0 fun w => { w with
        state := .active, present := true, latchClosed := true, pwrEn := true, linkEnable := true,
        sample := { present := true, latch := true, pgood := true, fault := false } }).modLink 0 fun l =>
      { l with state := .opened, windowTimer := some 1000, cadenceTimer := some 1000 }) with startUp := none }

/-- A word of the control region as slot 0 names it. -/
def at0 (k : Nat) : Origin := { slot := 0, addr := BitVec.ofNat 32 (4 * k) }

/-- `card` with a request at the head of slot 0's buffer. -/
def asking (r : Request) : State := card.modLink 0 fun l => { l with buffer := [r] }

/-- A window record, valid with both rights. -/
def window (kind : WindowKind) (size localBase physBase : Nat) : WindowCfg :=
  { valid := true, kind := kind, rights := .readWrite, size := size, group := 0, localBase := localBase,
    physBase := physBase }

/-- `card` with a STATUS window at 20000000h, a TIME window at 30000000h and a STAGED window onto group 0's 4 KiB at 40000000h,
and queue 0 from slot 0 to slot 0 in two cells, high watermark 2, low 1, ring at 20000h. -/
def rig : State :=
  { card with cfg := { card.cfg with
      windows := ((card.cfg.windows.set 1 (window .status 12 0x20000000 0)).set 2 (window .time 12 0x30000000 0)).set 3
        (window .staged 12 0x40000000 0x10000)
      groups := card.cfg.groups.set 0 { valid := true, base := 0x10000, pages := 1 }
      queues := card.cfg.queues.set 0
        { base := 0x20000, cellSize := 4, cellCount := 1, producer := 0, consumer := 0, high := 2, low := 1 } } }

/-- `rig` with a request at the head of slot 0's buffer. -/
def rigAsking (r : Request) : State := rig.modLink 0 fun l => { l with buffer := [r] }

/-- A one-word WRITE with every byte enabled. -/
def word (addr data : Word) : Request := .write addr 0xF#4 0xF#4 [data]

/-- Slot 0's arm word. -/
def armOrigin : Origin := { slot := 0, addr := 0x40000FFC#32 }

/-- `rig` with queue 0 OPEN at these indices. -/
def ring (p c : Nat) (r : Request) : State :=
  (rigAsking r).modQueue 0 fun x => { x with state := .opened, p := p, c := c }

/-- A staged entry of group 0. -/
def entry (addr : Nat) (next : Bool) : Staged :=
  { group := 0, addr := addr, data := 0x11223344#32, mask := 0xF#4, origin := 1#12, next := next }

/-- `rig` with group 0 in this state and these entries staged. -/
def staging (st : GroupState) (es : List Staged) : State :=
  { (rig.modGroup 0 fun g => { g with state := st, entryCount := es.length }) with staged := es }

/-- `card` with slot 0's link changed. -/
def link (f : LinkPort → LinkPort) : State := card.modLink 0 f

/-- `card` with slot 0 of the swap sequencer changed. -/
def swap (f : Swap → Swap) : State := card.modSwap 0 f

/-- Reference A enabled, the active one, with an edge at this capture that has stayed high 4 periods. -/
def pulse (loop : LoopState) (sec ns : Nat) : State :=
  { (card.modRef 0 fun f => { f with qualified := true, edge := some { capture := { sec := sec, ns := ns }, periods := 4 } })
    with cfg := { card.cfg with refs := card.cfg.refs.set 0 { enable := true, priority := 0, delay := 0 } }
         time := { card.time with loop := loop, active := some 0, sec := sec, ns := ns } }

/-- Good lines. -/
def good : Lines := { present := true, latch := true, pgood := true, fault := false }

/-! ## Well-formedness and decoding -/

/-- A READ of no words, and one of 17, are ill formed (R2). -/
theorem test_wellFormed_read : Instr.wellFormed (.readFrameArrival 0 1#8 0#32 0) = false ∧
    Instr.wellFormed (.readFrameArrival 0 1#8 0#32 17) = false ∧
    Instr.wellFormed (.readFrameArrival 0 1#8 0#32 16) = true := by decide

/-- So are a WRITE of no data and one of 17 words (R2). -/
theorem test_wellFormed_write : Instr.wellFormed (.writeFrameArrival 0 0#32 0xF#4 0xF#4 []) = false ∧
    Instr.wellFormed (.writeFrameArrival 0 0#32 0xF#4 0xF#4 (List.replicate 17 0#32)) = false ∧
    Instr.wellFormed (.writeFrameArrival 0 0#32 0xF#4 0xF#4 [0#32]) = true := by decide

/-- A conversion against a reference of 0 is ill formed (R176). -/
theorem test_wellFormed_conversion : Instr.wellFormed (.conversionComplete 5 0) = false ∧
    Instr.wellFormed (.conversionComplete 5 1) = true := by decide

/-- No row of the table has bits, so no word spells a command. -/
theorem test_decode_none : decodeTableWord 32 0xFFFFFFFF = none := by decide

/-! ## Steps, resets and invariants -/

theorem witness_StepRunsTheFrontCommand : State.reset.pending = [] := rfl

/-- A state unlike reset that has something of everything an invariant speaks of. -/
def busy : State :=
  { (staging .armed [entry 0x10000 false, entry 0x10008 false]) with
      pending := [.idleArrival 0, .localOscillatorPeriod .stagingFirst]
      cfg := { rig.cfg with logCode := 4, logBase := 0x8000, logRead := 65535 }
      mem := [(64, 5#8), (65, 6#8)]
      queues := rig.queues.set 0 { rig.queues[0] with state := .opened, p := 3, c := 1 }
      lists := rig.lists.set 0 { entries := [{ id := .frame, details := .blank, count := 1 },
                                            { id := .queue .ready 0, details := .indices 3 1, count := 255 }]
                                 overflow := true }
      adm := rig.adm.set 0 { draw := 4095, shed := false }
      log := { accept := 0, write := 65535, lost := 0,
               queue := [{ seq := 65535, draft := { kind := .lost, point := 57, severity := .minor, count := 0, sec := 0,
                                                    ns := 0, value := 0 } }] }
      time := { rig.time with sec := 1, ns := 990000000, freq := -2000000, applied := 2000000 }
      frame := 199 }

theorem card_cfg_inRange : card.cfg.InRange :=
  ⟨by decide, by unfold WindowCfg.InRange; decide, by unfold QueueCfg.InRange; decide, by decide, by decide, by decide,
    by decide, by unfold Cfg.SettingsInRange; repeat' apply And.intro
                  all_goals decide⟩

theorem busy_steps : step busy = .next (after (.idleArrival 0) { busy with pending := [.localOscillatorPeriod .stagingFirst] }) := rfl

theorem witness_MemoryStaysCanonical : busy.MemoryOk ∧ ∃ t, step busy = .next t :=
  ⟨by unfold State.MemoryOk; decide, _, busy_steps⟩

theorem busy_cfg_inRange : busy.cfg.InRange :=
  ⟨by decide, by unfold WindowCfg.InRange; decide, by unfold QueueCfg.InRange; decide, by decide, by decide, by decide,
    by decide, by unfold Cfg.SettingsInRange; repeat' apply And.intro
                  all_goals decide⟩

theorem busy_queue : ∀ q : QueueId, busy.queues[q].state ≠ .closed → q = 0 := by decide

theorem busy_group : ∀ g : GroupId, busy.cfg.groups[g].valid = true → g = 0 := by decide

/-- A ring, a group and the log ring, each in its place. -/
theorem busy_rangesApart : busy.RangesApart := by
  refine ⟨fun q h => ?_, fun g h => ?_, fun _ => by unfold Apart; decide⟩
  · cases busy_queue q h
    exact ⟨by decide, by unfold Apart; decide, fun x hx hc => absurd (busy_queue x hc) hx,
      fun g hg => by cases busy_group g hg; unfold Apart; decide, fun _ => by unfold Apart; decide⟩
  · cases busy_group g h
    exact ⟨by decide, by unfold Apart; decide, fun x hx hc => absurd (busy_group x hc) hx, fun _ => by unfold Apart; decide⟩

theorem busy_logOk : busy.LogOk := by
  refine ⟨by decide, by decide, by decide, by decide, by decide, fun i r h => ?_, by decide, by decide, by decide,
    fun ws h => by cases h⟩
  match i with
  | 0 => cases h; rfl
  | i + 1 => cases h

/-- `busy` at the beginning of cold start-up, a write of word 10 of the region at its port. -/
def starting : State :=
  { busy with startUp := some 0
              port := { busy.port with waiting := (busy.port.waiting.set 0
                          (some (.write [{ addr := 40, data := 0#32, mask := Mask.all, region := true }] []))) } }

theorem starting_waiting : ∀ n : SlotId, n ≠ 0 → starting.port.waiting[n] = none := by decide

theorem witness_MemoryStaysCanonical_region : starting.MemoryOk ∧ starting.cfg.InRange ∧ starting.RangesApart ∧
    starting.StagingOk ∧ starting.LogOk ∧ starting.PortPlaced ∧ starting.RegionAgrees ∧ ∃ t, step starting = .next t := by
  refine ⟨by unfold State.MemoryOk; decide, busy_cfg_inRange, busy_rangesApart, by unfold State.StagingOk; decide, busy_logOk,
    ⟨fun n ws h w hw => ?_, fun ws h => ?_, fun q b h => ?_, fun q h => ?_, by decide, fun n ws kept h g a d be hk => ?_⟩,
    ⟨fun k h => by cases h; decide, fun n ws w idx h => (by cases h), fun idx h => absurd (h 0 rfl) (Nat.not_lt_zero _)⟩, _, rfl⟩
  · by_cases h0 : n = 0
    · subst h0
      cases h with
      | inl h => obtain ⟨kept, h⟩ := h; cases h; cases List.mem_singleton.1 hw; exact ⟨⟨10, rfl⟩, rfl⟩
      | inr h => cases h
    · rw [starting_waiting n h0] at h
      cases h with
      | inl h => obtain ⟨kept, h⟩ := h; cases h
      | inr h => cases h
  · rcases h with h | h | h <;> cases h
  · cases h
  · cases h
  · by_cases h0 : n = 0
    · subst h0; cases h; cases hk
    · rw [starting_waiting n h0] at h; cases h

theorem witness_ConfigStaysInRange : busy.cfg.InRange ∧ busy.RightHeld ∧ ∃ t, step busy = .next t :=
  ⟨busy_cfg_inRange, by unfold State.RightHeld; decide, _, busy_steps⟩

theorem witness_OutputsFollowSwapState : busy.OutputsFollow ∧ ∃ t, step busy = .next t :=
  ⟨by unfold State.OutputsFollow; decide, _, busy_steps⟩

theorem witness_DrawsStayWithinBudget : busy.WithinBudget ∧ ∃ t, step busy = .next t :=
  ⟨by unfold State.WithinBudget; decide, _, busy_steps⟩

/-- On the battery budget by point 0, which carries the shed-trigger mark. -/
def onBatteryBusy : State :=
  { (busy.modPoint 0 fun p => { p with state := .falling }) with
      cfg := { busy.cfg with points := busy.cfg.points.set 0 { busy.cfg.points[0] with shedTrigger := true } }, onBattery := true }

theorem witness_DrawsStayWithinBudget_budget : (busy.BudgetFollows ∧ busy.onBattery = false ∧ ∃ t, step busy = .next t) ∧
    onBatteryBusy.BudgetFollows ∧ onBatteryBusy.onBattery = true ∧ ∃ t, step onBatteryBusy = .next t :=
  have h : ∀ p : PointId, busy.cfg.points[p].shedTrigger = false := by decide
  ⟨⟨⟨fun h => (by cases h), fun ⟨p, hp, _⟩ => by rw [h p] at hp; cases hp⟩, by decide, _, busy_steps⟩,
    ⟨fun _ => ⟨0, by decide, by decide⟩, fun _ => by decide⟩, by decide, _, rfl⟩

theorem witness_AckedOnlyWhileActive : busy.AckedActive ∧ ∃ t, step busy = .next t :=
  ⟨by unfold State.AckedActive; decide, _, busy_steps⟩

theorem witness_RelaysStayJudged : busy.RelaysJudged ∧ ∃ t, step busy = .next t :=
  ⟨by unfold State.RelaysJudged; decide, _, busy_steps⟩

theorem witness_NoticeListsKeepTheirForm : busy.ListsOk ∧ ∃ t, step busy = .next t := by
  refine ⟨fun n => ?_, _, busy_steps⟩
  have h : ∀ n : SlotId, (busy.lists[n]).entries.length ≤ 32 ∧ ((busy.lists[n]).entries.map Entry.id).Nodup ∧
      (∀ e ∈ (busy.lists[n]).entries.tail, e.id ≠ .frame) ∧ (∀ e ∈ (busy.lists[n]).entries, e.id ≠ .resync) ∧
      (∀ e ∈ (busy.lists[n]).entries, 1 ≤ e.count ∧ e.count ≤ 255) ∧
      ((busy.lists[n]).overflow = true → (busy.lists[n]).entries ≠ []) ∧
      (live busy n = false → busy.lists[n] = NoticeList.blank) := by decide
  obtain ⟨h1, h2, h3, h4, h5, h6, h7⟩ := h n
  exact ⟨⟨h1, h2, h3, fun ⟨e, he, hr⟩ => absurd hr (h4 e he), h5, h6⟩, h7⟩

theorem busy_idleSlotsClear : busy.IdleSlotsClear := by
  intro n h
  have h1 : ∀ n : SlotId, live busy n = false → busy.links[n].state ≠ .opened ∧ busy.links[n].buffer = [] ∧
      busy.links[n].reads = [] ∧ busy.lists[n].entries = [] ∧ busy.lists[n].overflow = false ∧
      (∀ e ∈ busy.staged, e.origin.getLsbD n.val = false) ∧ endpoint busy.cfg.queues[(0 : QueueId)] n = false := by decide
  obtain ⟨a, b, c, d, e, f, g⟩ := h1 n h
  refine ⟨a, b, c, d, e, f, fun q he hq => ?_⟩
  cases busy_queue q (by rw [hq]; decide)
  rw [g] at he
  cases he

theorem witness_NoticeListsKeepTheirForm_idle :
    busy.OutputsFollow ∧ busy.QueuesOk ∧ busy.IdleSlotsClear ∧ ∃ t, step busy = .next t :=
  ⟨by unfold State.OutputsFollow; decide, by unfold State.QueuesOk; decide, busy_idleSlotsClear, _, busy_steps⟩

theorem witness_QueuesStayInBounds :
    busy.QueuesOk ∧ busy.cfg.InRange ∧ busy.RangesApart ∧ ∃ t, step busy = .next t :=
  ⟨by unfold State.QueuesOk; decide, busy_cfg_inRange, busy_rangesApart, _, busy_steps⟩

/-- `starting` with a producer's index word in flight, a later one behind it, and the consumer's in memory. -/
def indexed : State :=
  { starting with
      mem := [(64, 5#8), (65, 6#8), (0x20004, 1#8)]
      port := { starting.port with
        flight := some (.slotWrite 0 [{ addr := 0x20000, data := 2#32, mask := Mask.all, region := false }])
        waiting := (starting.port.waiting.set 0
          (some (.write [{ addr := 0x20000, data := 3#32, mask := Mask.all, region := false }] []))) } }

theorem indexed_waiting : ∀ n : SlotId, n ≠ 0 → indexed.port.waiting[n] = none := by decide

/-- The words of `indexed` that wait and that fly. -/
theorem indexed_word (n : SlotId) (ws : List WriteWord) (w : WriteWord)
    (h : (∃ kept, indexed.port.waiting[n] = some (.write ws kept)) ∨ indexed.port.flight = some (.slotWrite n ws)) (hw : w ∈ ws) :
    n = 0 ∧ ((∃ kept, indexed.port.waiting[n] = some (.write ws kept)) →
        w = { addr := 0x20000, data := 3#32, mask := Mask.all, region := false }) ∧
      w.addr = 0x20000 ∧ w.mask = Mask.all ∧ w.region = false := by
  by_cases h0 : n = 0
  · subst h0
    rcases h with ⟨kept, h⟩ | h <;> cases h <;> cases List.mem_singleton.1 hw
    · exact ⟨rfl, fun _ => rfl, rfl, rfl, rfl⟩
    · exact ⟨rfl, fun ⟨_, h⟩ => (by cases h), rfl, rfl, rfl⟩
  · rcases h with ⟨kept, h⟩ | h
    · rw [indexed_waiting n h0] at h; cases h
    · cases h; exact absurd rfl h0

theorem indexed_indexesAgree : indexed.IndexesAgree := by
  refine ⟨fun n ws h w hw => by rw [(indexed_word n ws w h hw).2.2.1], fun q h => (by cases h), fun q b h => (by cases h),
    fun q hq => ?_, fun q hq => ?_⟩
  · cases busy_queue q (by rw [show busy.queues[q].state = .opening from hq]; decide); cases hq
  · have : q = 0 := busy_queue q (by rcases hq with hq | hq <;> rw [show busy.queues[q].state = _ from hq] <;> decide)
    subst this
    refine ⟨⟨fun n w h => ?_, fun w _ => Or.inr ?_, fun h => ?_⟩, ⟨fun n w h => ?_, fun w h => ?_, fun _ _ => by decide⟩⟩
    · obtain ⟨ws, kept, h, hw, _⟩ := h
      obtain ⟨rfl, hd, _⟩ := indexed_word n ws w (Or.inl ⟨kept, h⟩) hw
      exact ⟨rfl, hd ⟨kept, h⟩⟩
    · exact ⟨0, _, _, _, rfl, List.mem_singleton.2 rfl, rfl⟩
    · exact absurd ⟨_, _, rfl, List.mem_singleton.2 rfl, rfl⟩ (h 0 _)
    · obtain ⟨ws, kept, h, hw, ha⟩ := h
      rw [(indexed_word n ws w (Or.inl ⟨kept, h⟩) hw).2.2.1] at ha
      exact absurd ha (by decide)
    · obtain ⟨n, ws, h, hw, ha⟩ := h
      rw [(indexed_word n ws w (Or.inr h) hw).2.2.1] at ha
      exact absurd ha (by decide)

theorem indexed_portPlaced : indexed.PortPlaced := by
  refine ⟨fun n ws h w hw => ?_, fun ws h => ?_, fun q b h => (by cases h), fun q h => (by cases h), by decide,
    fun n ws kept h g a d be hk => ?_⟩
  · obtain ⟨-, -, ha, -, hr⟩ := indexed_word n ws w h hw
    unfold WriteWord.Placed; rw [hr, ha, if_neg (by decide)]; unfold Apart; decide
  · rcases h with h | h | h <;> cases h
  · by_cases h0 : n = 0
    · subst h0; cases h; cases hk
    · rw [indexed_waiting n h0] at h; cases h

theorem busy_roundsOk : indexed.RoundsOk :=
  ⟨by decide, by decide, fun ws h => (by rcases h with h | h <;> cases h), fun ws vs h => (by cases h)⟩

theorem witness_QueuesStayInBounds_indices : indexed.MemoryOk ∧ indexed.cfg.InRange ∧ indexed.RangesApart ∧ indexed.QueuesOk ∧
    indexed.LogOk ∧ indexed.PortPlaced ∧ indexed.RegionAgrees ∧ indexed.RoundsOk ∧ indexed.IndexesAgree ∧
    ∃ t, step indexed = .next t := by
  refine ⟨by unfold State.MemoryOk; decide, busy_cfg_inRange, busy_rangesApart, by unfold State.QueuesOk; decide, ?_,
    indexed_portPlaced, ⟨fun k h => by cases h; decide, fun n ws w idx h hw hr => ?_, fun idx h => absurd (h 0 rfl) (Nat.not_lt_zero _)⟩,
    busy_roundsOk, indexed_indexesAgree, _, rfl⟩
  · obtain ⟨h1, h2, h3, h4, h5, h6, h7, h8, h9, _⟩ := busy_logOk
    exact ⟨h1, h2, h3, h4, h5, h6, h7, h8, h9, fun ws h => (by cases h)⟩
  · rw [(indexed_word n ws w (Or.inr h) hw).2.2.2.2] at hr
    cases hr

/-- `busy` with a one-word READ, a WRITE of 16 words and a READY_TO_FENCE in slot 0's buffer. -/
def bursting : State :=
  busy.modLink 0 fun l =>
    { l with buffer := [.read 1#8 0#32 1, .write 0x10000#32 0xF#4 0xF#4 (List.replicate 16 0#32), .readyToFence] }

theorem bursting_buffer : ∀ n : SlotId, n ≠ 0 → bursting.links[n].buffer = [] := by decide

theorem witness_StagingStaysInBounds :
    bursting.cfg.InRange ∧ bursting.BurstsOk ∧ bursting.StagingOk ∧ ∃ t, step bursting = .next t := by
  refine ⟨busy_cfg_inRange, fun n r hr => ?_, by unfold State.StagingOk; decide, _, rfl⟩
  by_cases h : n = 0
  · subst h
    rcases hr with _ | ⟨_, _ | ⟨_, _ | ⟨_, h⟩⟩⟩
    · exact ⟨by decide, by decide⟩
    · exact ⟨by decide, by decide⟩
    · trivial
    · cases h
  · rw [bursting_buffer n h] at hr
    cases hr

/-- `busy` with its group's round under way, the first entry's transaction at the port. -/
def committing : State :=
  { busy.modGroup 0 (fun g => { g with state := .committing, entryCount := 0, roundSize := 3 }) with
      rounds := [0], serving := true, port := { busy.port with commit := some [commitWord (entry 0x10000 false)] } }

theorem committing_word (ws : List WriteWord)
    (h : committing.port.commit = some ws ∨ committing.port.flight = some (.commit ws)) :
    ws = [commitWord (entry 0x10000 false)] := by
  rcases h with h | h <;> cases h
  rfl

theorem committing_roundsOk : committing.RoundsOk := by
  refine ⟨by decide, by decide, fun ws h => ?_, fun ws vs _ h => (by cases h)⟩
  cases committing_word ws h
  refine ⟨rfl, 0, [], rfl, rfl, fun w hm => ?_⟩
  cases List.mem_singleton.1 hm
  decide

theorem witness_StagingStaysInBounds_rounds : committing.cfg.InRange ∧ committing.StagingOk ∧ committing.PortPlaced ∧
    committing.RoundsOk ∧ ∃ t, step committing = .next t := by
  have hw : ∀ n : SlotId, committing.port.waiting[n] = none := by decide
  refine ⟨busy_cfg_inRange, by unfold State.StagingOk; decide,
    ⟨fun n ws h => ?_, fun ws h w hm => ?_, fun q b h => (by cases h), fun q h => (by cases h), by decide,
      fun n ws kept h => (by rw [hw n] at h; cases h)⟩,
    committing_roundsOk, _, rfl⟩
  · rw [hw n] at h; rcases h with ⟨_, h⟩ | h <;> cases h
  · have : ws = [commitWord (entry 0x10000 false)] := by
      rcases h with h | h | h
      · exact committing_word ws (Or.inl h)
      · exact committing_word ws (Or.inr h)
      · cases h
    subst this
    cases List.mem_singleton.1 hm
    unfold Apart; decide

/-- A round with two entries left of its three, and none of the next. -/
theorem witness_StagingStaysInBounds_counts : committing.RoundsOk ∧ committing.CountsAgree ∧ ∃ t, step committing = .next t :=
  ⟨committing_roundsOk, by unfold State.CountsAgree; decide, _, rfl⟩

theorem witness_TimebaseStaysInBounds : busy.TimeOk ∧ busy.FrameAgrees ∧ ∃ t, step busy = .next t :=
  ⟨by unfold State.TimeOk; decide, by unfold State.FrameAgrees; decide, _, busy_steps⟩

theorem witness_LogQueueAgrees : busy.LogOk ∧ ∃ t, step busy = .next t := ⟨busy_logOk, _, busy_steps⟩

theorem witness_MemoryChangesAtCompletions : storesMemory (.idleArrival 0) = false ∧
    exec (.idleArrival 0) card = .next (after (.idleArrival 0) card) := ⟨rfl, rfl⟩

theorem witness_WhatCommandsLeaveAlone : writesRegion (.idleArrival 0) = false ∧ movesTime (.idleArrival 0) = false ∧
    exec (.idleArrival 0) card = .next (after (.idleArrival 0) card) := ⟨rfl, rfl, rfl⟩

/-- R22, R72: COLD_RESET with the 32 MiB strap and the region at the top. -/
theorem test_coldReset :
    (after (.coldReset { size := .mib32, regionTop := true, contacts := Vector.replicate 8 true }) busy).startUp = some 0 ∧
    regionBase (after (.coldReset { size := .mib32, regionTop := true, contacts := Vector.replicate 8 true }) busy) =
      33538048 := by decide

/-- R193: the 256th start-up transaction ends cold start-up. -/
theorem test_coldStartUpWriteComplete :
    (after .coldStartUpWriteComplete { State.reset with startUp := some 255 }).startUp = none := by decide

theorem witness_CardFramesRoundTrip : (List.replicate 16 0#32).length = 16 ∧ (1 ≤ 16 ∧ 16 ≤ 16) := by decide

/-! ## Slot links -/

/-- The request arrivals, at both ends of the word count. -/
theorem witness_FrameArrivals :
    arrivingRequest (.readFrameArrival 0 1#8 0#32 1) = some (0, .read 1#8 0#32 1) ∧
    arrivingRequest (.writeFrameArrival 0 0#32 0xF#4 0xF#4 (List.replicate 16 0#32)) =
      some (0, .write 0#32 0xF#4 0xF#4 (List.replicate 16 0#32)) ∧
    arrivingRequest (.readyToFenceArrival 0) = some (0, .readyToFence) := by decide

/-- R10: the 12th frame in the buffer marks HOLD. -/
theorem test_readFrameArrival :
    (after (.readFrameArrival 0 1#8 0#32 1) (link fun l => { l with buffer := List.replicate 11 .readyToFence })).links[0].mark =
      some .hold ∧
    (after (.readFrameArrival 0 1#8 0#32 1) (link fun l => { l with buffer := List.replicate 10 .readyToFence })).links[0].mark =
      none := by decide

/-- R8: a WRITE that finds 16 frames is discarded and counted in the error window. -/
theorem test_writeFrameArrival :
    (after (.writeFrameArrival 0 0#32 0xF#4 0xF#4 [0#32])
      (link fun l => { l with buffer := List.replicate 16 .readyToFence })).links[0].windowCount = 1 := by decide

theorem test_readyToFenceArrival : (after (.readyToFenceArrival 0) card).links[0].buffer = [.readyToFence] := by decide

/-- R6: the 8th good frame in a row takes ALIGNING to MEASURING. -/
theorem test_idleArrival :
    (after (.idleArrival 0) (link fun l => { l with state := .aligning, goodRun := 7 })).links[0].state = .measuring ∧
    (after (.idleArrival 0) (link fun l => { l with state := .aligning, goodRun := 6 })).links[0].state = .aligning := by
  decide

/-- Clause by clause: a count of 0 and of 17, the third and the fourth failing frame in OPEN, a waiting READ and a waiting
WRITE. -/
theorem witness_FailingFrames :
    (link fun l => { l with failRun := 2 }).links[0].state = .opened ∧
    (link fun l => { l with failRun := 2 }).links[0].failRun + 1 < 4 ∧
    4 ≤ (link fun l => { l with failRun := 3 }).links[0].failRun + 1 ∧
    live (link fun l => { l with failRun := 3 }) 0 = true ∧ card.swaps[0].realign = none ∧
    (card.setWaiting 0 (some (.read 0 [4] false))).port.waiting[0] = some (.read 0 [4] false) ∧
    (card.setWaiting 0 (some (.write [] []))).port.waiting[0] = some (.write [] []) ∧
    (List.replicate 17 0#32).length = 17 := by decide

/-- R5: the 4th failing frame in a row takes OPEN to ALIGNING and withdraws the READ that waits. -/
theorem test_frameCheckFailed :
    (after (.frameCheckFailed 0) ((link fun l => { l with failRun := 3 }).setWaiting 0 (some (.read 0 [4] false)))).links[0].state =
      .aligning ∧
    (after (.frameCheckFailed 0) ((link fun l => { l with failRun := 3 }).setWaiting 0 (some (.read 0 [4] false)))).port.waiting[0] =
      none := by decide

/-- `card` with an ECHO outstanding since cabinet time 0. -/
def echoing (st : LinkState) (ns : Nat) : State :=
  { (link fun l => { l with state := st, echo := some { seq := 5#16, sent := { sec := 0, ns := 0 } }, missRun := 2,
                            replyTimer := some 0 }) with time := { card.time with ns := ns } }

/-- In OPEN: r at both ends of 0..200,000, and just past each; in MEASURING: r at both ends. -/
theorem witness_EchoReplies : (Calm (echoing .opened 200000) ∧ (echoing .opened 200000).links[0].state = .opened ∧
      (echoing .opened 200000).links[0].echo = some { seq := 5#16, sent := { sec := 0, ns := 0 } }) ∧
    (elapsed { sec := 0, ns := 0 } { sec := 0, ns := 200000 } - ((0#32).toNat : Int) = 200000 ∧
      elapsed { sec := 0, ns := 0 } { sec := 0, ns := 200000 } - ((200000#32).toNat : Int) = 0 ∧
      elapsed { sec := 0, ns := 0 } { sec := 0, ns := 200000 } - ((200001#32).toNat : Int) = -1 ∧
      elapsed { sec := 0, ns := 0 } { sec := 0, ns := 200001 } - ((0#32).toNat : Int) = 200001) ∧
    (Calm (echoing .measuring 200000) ∧ (echoing .measuring 200000).links[0].state = .measuring) := by
  unfold Calm; decide

/-- The opening of a link: its slot in LINKING, live already, and neither. -/
theorem witness_EchoReplies_opening :
    (Calm ((echoing .measuring 200000).modSwap 0 fun w => { w with state := .linking }) ∧
      ((echoing .measuring 200000).modSwap 0 fun w => { w with state := .linking }).swaps[0].state = .linking ∧
      NoAlarmSub ((echoing .measuring 200000).modSwap 0 fun w => { w with state := .linking })) ∧
    (live (echoing .measuring 200000) 0 = true ∧ NoAlarmSub (echoing .measuring 200000)) ∧
    (Calm ((echoing .measuring 200000).modSwap 0 fun w => { w with state := .fenced }) ∧
      live ((echoing .measuring 200000).modSwap 0 fun w => { w with state := .fenced }) 0 = false) := by
  unfold Calm NoAlarmSub; decide

/-- In MEASURING: r just past each end; in MEASURING and OPEN: no echo outstanding, and one of another sequence. -/
theorem witness_EchoReplies_others :
    (Calm (echoing .measuring 200001) ∧ (echoing .measuring 200001).links[0].state = .measuring ∧
      (echoing .measuring 200001).links[0].echo = some { seq := 5#16, sent := { sec := 0, ns := 0 } }) ∧
    (Calm (link fun l => { l with state := .measuring }) ∧ (link fun l => { l with state := .measuring }).links[0].echo = none ∧
      Calm card ∧ card.links[0].echo = none) ∧ (5#16 : BitVec 16) ≠ 6#16 := by
  unfold Calm; decide

/-- R16: the first sample loads the delay with half of r, rounded down. R15: a reply that comes before its own turnaround is
the third miss in a row. -/
theorem test_echoReplyArrival :
    (after (.echoReplyArrival 0 5#16 0#32) (echoing .opened 200000)).links[0].delay = some 100000 ∧
    (after (.echoReplyArrival 0 5#16 200001#32) (echoing .opened 200000)).links[0].echoSource = true := by decide

/-- R135: the link's opening takes a slot in LINKING to ACTIVE. -/
theorem test_echoReply_opens :
    (after (.echoReplyArrival 0 5#16 0#32) ((echoing .measuring 200000).modSwap 0 fun w => { w with state := .linking })).swaps[0].state =
      .active := by decide

theorem witness_LinkTimers :
    ((link fun l => { l with cadenceTimer := some 0 }).links[0].cadenceTimer = some 0) ∧
    (Calm (echoing .opened 0) ∧ (echoing .opened 0).links[0].replyTimer = some 0) ∧
    (Calm (link fun l => { l with windowTimer := some 0, windowCount := 16 }) ∧
      (link fun l => { l with windowTimer := some 0, windowCount := 16 }).links[0].windowTimer = some 0 ∧
      (link fun l => { l with windowTimer := some 0, windowCount := 16 }).cfg.linkThreshold ≤
        (link fun l => { l with windowTimer := some 0, windowCount := 16 }).links[0].windowCount) ∧
    (Calm (link fun l => { l with windowTimer := some 0, windowCount := 15, windowSource := true, quietRun := 9 }) ∧
      (link fun l => { l with windowTimer := some 0, windowCount := 15, windowSource := true }).links[0].windowCount <
        card.cfg.linkThreshold) := by
  unfold Calm; decide

/-- A window below the threshold with its source present, ninth and first, and absent. -/
theorem witness_LinkTimers_quiet : ∀ run ∈ [0, 8], ∀ source ∈ [false, true],
    Calm (link fun l => { l with windowTimer := some 0, windowSource := source, quietRun := run }) ∧
    (link fun l => { l with windowTimer := some 0, windowSource := source, quietRun := run }).links[0].windowCount <
      card.cfg.linkThreshold := by
  unfold Calm; decide

theorem test_echoCadenceDue : (after (.echoCadenceDue 0) (link fun l => { l with cadenceTimer := some 0 })).links[0].echoDue = true ∧
    (after (.echoCadenceDue 0) (link fun l => { l with cadenceTimer := some 1 })).links[0].echoDue = false := by decide

theorem test_echoReplyTimerExpiry :
    (after (.echoReplyTimerExpiry 0) (echoing .opened 0)).links[0].missRun = 3 ∧
    (after (.echoReplyTimerExpiry 0) (echoing .measuring 0)).links[0].missRun = 2 := by decide

/-- R13: 16 failing frames in the window raise the source; the tenth quiet window in a row drops it. -/
theorem test_errorWindowEnd :
    (after (.errorWindowEnd 0) (link fun l => { l with windowTimer := some 0, windowCount := 16 })).links[0].windowSource = true ∧
    (after (.errorWindowEnd 0)
      (link fun l => { l with windowTimer := some 0, windowSource := true, quietRun := 9 })).links[0].windowSource = false := by
  decide

/-- A slot's notice list, with slot 0's link ready to send and one READ answered. -/
def talking (es : List Entry) (words : List (Option Word)) : State :=
  { (link fun l => { l with reads := [{ id := 0, tag := 9#8, status := .ok, words := words }] }) with
      lists := card.lists.set 0 { entries := es, overflow := false } }

/-- The choices of R12, each with those before it absent; in the notice clause a FRAME at the head over an answered READ, and
another notice with none answered. -/
theorem witness_TransmitSideInOpen :
    ((link fun l => { l with goOwed := true }).links[0].goOwed = true ∧ card.links[0].sending = none) ∧
    ((link fun l => { l with mark := some .hold }).links[0].mark = some .hold ∧ card.links[0].goOwed = false) ∧
    ((link fun l => { l with echoDue := true }).links[0].echoDue = true ∧ card.links[0].mark = none) ∧
    ((talking [{ id := .frame, details := .blank, count := 1 }] [some 1#32]).lists[0].entries =
      [{ id := .frame, details := .blank, count := 1 }] ∧ card.links[0].echoDue = false) ∧
    ((talking [{ id := .resync, details := .blank, count := 1 }] [none]).lists[0].entries =
        [{ id := .resync, details := .blank, count := 1 }] ∧
      dataReady (talking [{ id := .resync, details := .blank, count := 1 }] [none]).links[0] = false) ∧
    (answered { id := 0, tag := 9#8, status := .ok, words := [some 1#32] } = true ∧
      ∀ x ∈ (talking [{ id := .resync, details := .blank, count := 1 }] [some 1#32]).lists[0].entries.head?, x.id ≠ .frame) ∧
    ((talking [] [none]).lists[0].entries = [] ∧ dataReady (talking [] [none]).links[0] = false) := by decide

/-- A SEND that R12 does not choose: of each of the six, where another is chosen. -/
theorem witness_TransmitSideInOpen_others : card.links[0].state = .opened ∧ card.links[0].sending = none ∧
    (∀ c ∈ [Instr.sendGo 0, .sendHold 0, .sendEcho 0, .sendNotice 0, .sendData 0], c ∈ sendRows 0 ∧ c ≠ sendChosen card 0) ∧
    (.sendIdle 0 ∈ sendRows 0 ∧ .sendIdle 0 ≠ sendChosen (link fun l => { l with goOwed := true }) 0) := by decide

theorem test_sendGo : (after (.sendGo 0) (link fun l => { l with goOwed := true })).links[0].sending = some .go := by decide

theorem test_sendHold : (after (.sendHold 0) (link fun l => { l with mark := some .hold })).links[0].sending = some .hold ∧
    (after (.sendHold 0) (link fun l => { l with mark := some .hold, goOwed := true })).links[0].sending = none := by decide

/-- R14: the ECHO carries the sequence number and starts the 5 ms reply timer. -/
theorem test_sendEcho :
    (after (.sendEcho 0) (link fun l => { l with echoDue := true, echoSeq := 65535#16 })).links[0].sending = some (.echo 65535#16) ∧
    (after (.sendEcho 0) (link fun l => { l with echoDue := true, echoSeq := 65535#16 })).links[0].echoSeq = 0#16 ∧
    (after (.sendEcho 0) (link fun l => { l with echoDue := true, echoSeq := 65535#16 })).links[0].replyTimer = some 5 := by
  decide

/-- R12: DATA goes before a notice that is no FRAME. -/
theorem test_sendData :
    (after (.sendData 0) (talking [{ id := .resync, details := .blank, count := 1 }] [some 7#32])).links[0].sending =
      some (.data 9#8 .ok [7#32]) ∧
    (after (.sendData 0) (talking [{ id := .frame, details := .blank, count := 1 }] [some 7#32])).links[0].sending = none := by
  decide

theorem test_sendNotice :
    (after (.sendNotice 0) (talking [{ id := .frame, details := .blank, count := 1 }] [some 7#32])).links[0].sending =
      some (.notice { id := .frame, details := .blank, count := 1 }) ∧
    (after (.sendNotice 0) (talking [{ id := .resync, details := .blank, count := 1 }] [some 7#32])).links[0].sending = none := by
  decide

theorem test_sendIdle : (after (.sendIdle 0) card).links[0].sending = some .idle ∧
    (after (.sendIdle 0) (link fun l => { l with state := .off })).links[0].sending = none := by decide

theorem witness_TransmitSideElsewhere :
    ((link fun l => { l with state := .measuring }).links[0].sending = none ∧
      (link fun l => { l with state := .measuring }).links[0].state = .measuring ∧
      (link fun l => { l with state := .measuring }).links[0].echoDue = false) ∧
    (link fun l => { l with state := .measuring, echoDue := true }).links[0].echoDue = true ∧
    (link fun l => { l with state := .aligning }).links[0].state = .aligning ∧
    (link fun l => { l with state := .fenced }).links[0].state = .fenced ∧
    (link fun l => { l with sending := some .idle }).links[0].sending ≠ none ∧
    ((link fun l => { l with state := .off }).links[0].state = .off ∧ .sendIdle 0 ∈ sendRows 0) ∧
    (.sendEcho 0 ∈ sendRows 0 ∧ Instr.sendEcho 0 ≠ .sendIdle 0 ∧ .sendGo 0 ∈ sendRows 0 ∧ Instr.sendGo 0 ≠ .sendEcho 0) := by
  decide

theorem test_transmitFrameEnd :
    (after (.transmitFrameEnd 0) (link fun l => { l with sending := some .idle })).links[0].sending = none := by decide

/-- R67: an empty list with its overflow mark set takes a RESYNC of count 1, and the mark clears. -/
theorem test_resyncAdd :
    (after (.resyncAdd 0) { card with lists := card.lists.set 0 { entries := [], overflow := true } }).lists[0] =
      { entries := [{ id := .resync, details := .blank, count := 1 }], overflow := false } := by decide

/-! ## Windows and the memory path -/

/-- A READ of all sixteen words, memory's last word and the first past it among them: it meets UNMAPPED, at one word. -/
theorem witness_ReadsAreTaken :
    (Calm (asking (.read 7#8 0x0FFFFFFC#32 2)) ∧ (asking (.read 7#8 0x0FFFFFFC#32 2)).links[0].state = .opened ∧
      (asking (.read 7#8 0x0FFFFFFC#32 2)).port.waiting[0] = none ∧
      (asking (.read 7#8 0x0FFFFFFC#32 2)).links[0].reads.length < 8 ∧
      (asking (.read 7#8 0x0FFFFFFC#32 2)).links[0].buffer = [.read 7#8 0x0FFFFFFC#32 2]) ∧
    (placeBurst (asking (.read 7#8 0x0FFFFFFC#32 2)) readOutcome 0 0x0FFFFFFC#32 2).filterMap memoryAddr = [0x0FFFFFFC] ∧
    outcomeKind (worst (placeBurst (asking (.read 7#8 0x0FFFFFFC#32 2)) readOutcome 0 0x0FFFFFFC#32 2)) = some .unmapped ∧
    (placeBurst (asking (.read 7#8 0x10000000#32 1)) readOutcome 0 0x10000000#32 1).filterMap memoryAddr = [] ∧
    worst (placeBurst (asking (.read 7#8 0#32 1)) readOutcome 0 0#32 1) = .pass := by
  unfold Calm; decide

/-- The fault of a READ whose second word is the first past memory. -/
theorem witness_ReadsAreTaken_fault :
    (placeBurst (asking (.read 7#8 0x0FFFFFFC#32 2)) readOutcome 0 0x0FFFFFFC#32 2).find? (fun p =>
        decide (p.outcome = worst (placeBurst (asking (.read 7#8 0x0FFFFFFC#32 2)) readOutcome 0 0x0FFFFFFC#32 2))) =
      some { addr := 0x10000000, dest := .unmapped, outcome := .unmapped } := by decide

/-- Point 56 is enabled and stands CLEAR, as do the two others that a WRITE may raise. -/
theorem witness_ReadsAreTaken_point : (asking (.read 7#8 0x0FFFFFFC#32 2)).points[(56 : PointId)].state ≠ .rising ∧
    (asking (.read 7#8 0x0FFFFFFC#32 2)).cfg.points[(56 : PointId)].enable = true := by decide

theorem test_windowTakeRead :
    (after (.windowTakeRead 0) (asking (.read 7#8 0x0FFFFFFC#32 2))).port.waiting[0] = some (.read 0 [0x0FFFFFFC] false) ∧
    (after (.windowTakeRead 0) (asking (.read 7#8 0x0FFFFFFC#32 2))).access[0] =
      { count := 1, last := some (0x10000000#32, .unmapped) } := by decide

/-- R25: the READ's one fault raises point 56. -/
theorem test_windowTakeRead_point :
    (after (.windowTakeRead 0) (asking (.read 7#8 0x0FFFFFFC#32 2))).points[(56 : PointId)] =
      { state := .raised, acked := false, count := 1, timer := none, cond := false } := by decide

theorem witness_ReadsLatchAndClear :
    ((rigAsking (.read 7#8 0x30000000#32 1)).links[0].state = .opened ∧
      (rigAsking (.read 7#8 0x30000000#32 1)).port.waiting[0] = none ∧
      (rigAsking (.read 7#8 0x30000000#32 1)).links[0].reads.length < 8 ∧
      placeBurst (rigAsking (.read 7#8 0x30000000#32 1)) readOutcome 0 0x30000000#32 1 =
        [{ addr := 0x30000000, dest := .time 0, outcome := .pass }]) ∧
    (Calm (rigAsking (.read 7#8 0x200000E0#32 3)) ∧
      placeBurst (rigAsking (.read 7#8 0x200000E0#32 3)) readOutcome 0 0x200000E0#32 3 =
        [{ addr := 0x200000E0, dest := .status 56, outcome := .pass },
         { addr := 0x200000E4, dest := .status 57, outcome := .pass },
         { addr := 0x200000E8, dest := .status 58, outcome := .pass }] ∧
      worst (placeBurst (rigAsking (.read 7#8 0x200000E0#32 3)) readOutcome 0 0x200000E0#32 3) = .pass) := by
  unfold Calm; decide

/-- STATUS with and without a fault recorded and a pulse captured; the ends of the ranges of words that no item has. -/
theorem witness_ReadsLatchAndClear_status :
    (card.access[0].last = none ∧ card.refs[0].capture = none) ∧
    ({ card with access := card.access.set 0 { count := 1, last := some (4#32, .rights) } }.access[0].last = some (4#32, .rights) ∧
      (card.modRef 0 fun f => { f with capture := some { sec := 1, ns := 2 } }).refs[0].capture = some { sec := 1, ns := 2 }) ∧
    (∀ k ∈ [59, 63, 69, 71, 77, 127, 408, 447, 506, 1023],
      (59 ≤ k ∧ k < 64) ∨ (69 ≤ k ∧ k < 72) ∨ (77 ≤ k ∧ k < 128) ∨ (408 ≤ k ∧ k < 448) ∨ 506 ≤ k) := by decide

/-- Word 53 of STATUS: contact 1 at bit 17 over three skipped passes. -/
theorem test_statusCabinet :
    statusWord { card with contacts := (Vector.replicate 8 false).set 1 true, scan := { card.scan with skipped := 3 } } 0 53 =
      0x00020003#32 := by decide

/-- R123: the latch takes the seconds, the frame number and the loop state. -/
theorem test_timeWord0Read :
    (after (.timeWord0Read 0) { rigAsking (.read 7#8 0x30000000#32 1) with
      time := { rig.time with sec := 7, loop := .locked }, frame := 700 }).latches[0] =
      { sec := 7, frame := 700, loop := .locked } := by decide

/-- R188: point 48's mark, set at reset, is cleared for the reader of the second points word alone. -/
theorem test_statusMarkRead :
    (after (.statusMarkRead 0) (rigAsking (.read 7#8 0x200000E8#32 1))).marks[0].points = 0#58 ∧
    (after (.statusMarkRead 0) (rigAsking (.read 7#8 0x200000E8#32 1))).marks[1].points = 1#58 <<< 48 := by decide

/-- A plain word above the region; the last region word from a slot without the right; an address past the window. -/
theorem witness_MemoryWritesAreJudged :
    (Calm (asking (word 0x4000#32 5#32)) ∧ HeadWord (asking (word 0x4000#32 5#32)) 0 0x4000#32 0xF#4 0xF#4 5#32 [] (.mem 0x4000) ∧
      inRegion (asking (word 0x4000#32 5#32)) 0x4000 = false ∧ indexWord (asking (word 0x4000#32 5#32)) 0x4000 = none) ∧
    (∃ s : State, Calm s ∧ s.links[0].state = .opened ∧ s.port.waiting[0] = none ∧
      s.links[0].buffer = [word 0x3FFC#32 5#32] ∧
      placeBurst s writeOutcome 0 0x3FFC#32 1 = [{ addr := 0x3FFC, dest := .mem 0x3FFC, outcome := .pass }] ∧
      inRegion s 0x3FFC = true ∧ s.cfg.slots[0].right = false) ∧
    (Calm (asking (word 0x10000000#32 5#32)) ∧
      placeBurst (asking (word 0x10000000#32 5#32)) writeOutcome 0 0x10000000#32 1 =
        [{ addr := 0x10000000, dest := .unmapped, outcome := .unmapped }] ∧
      outcomeKind .unmapped = some .unmapped) := by
  refine ⟨by unfold Calm HeadWord; decide,
    ⟨{ asking (word 0x3FFC#32 5#32) with cfg := { card.cfg with slots := Vector.replicate 12 (SlotCfg.cold false) } }, ?_⟩,
    by unfold Calm; decide⟩
  unfold Calm; decide

/-- Three words from slot address 3FFCh on, slot 0 without the control right: the first, in the control region, is left out. Two
words at the top of memory: the second, past it, is left out. -/
theorem witness_MemoryWritesAreJudged_burst :
    (∃ s : State, Calm s ∧ s.links[0].state = .opened ∧ s.port.waiting[0] = none ∧ s.cfg.slots[0].right = false ∧
      s.links[0].buffer = [.write 0x3FFC#32 1#4 8#4 [1#32, 2#32, 3#32]] ∧
      (∀ p ∈ placeBurst s writeOutcome 0 0x3FFC#32 3, p.outcome = .pass) ∧ inRegion s 0x3FFC = true ∧
      burstWords s (placeBurst s writeOutcome 0 0x3FFC#32 3) 1#4 8#4 [1#32, 2#32, 3#32] =
        [{ addr := 0x4000, data := 2#32, mask := 0xF#4, region := false },
          { addr := 0x4004, data := 3#32, mask := 8#4, region := false }] ∧
      ∀ q : QueueId, s.queues[q].state = .closed) ∧
    (Calm (asking (.write 0x0FFFFFFC#32 1#4 8#4 [1#32, 2#32])) ∧
      (placeBurst card writeOutcome 0 0x0FFFFFFC#32 2).map Placed.outcome = [.pass, .unmapped] ∧
      burstWords card (placeBurst card writeOutcome 0 0x0FFFFFFC#32 2) 1#4 8#4 [1#32, 2#32] =
        [{ addr := 0x0FFFFFFC, data := 1#32, mask := 1#4, region := false }]) := by
  refine ⟨⟨{ asking (.write 0x3FFC#32 1#4 8#4 [1#32, 2#32, 3#32]) with
      cfg := { card.cfg with slots := card.cfg.slots.set 0 { card.cfg.slots[0] with right := false } } }, ?_⟩, ?_⟩
  all_goals unfold Calm; decide

/-- `rig` with queue 0 WAITING and a WRITE of a word below its ring and of both its index words. -/
def straddle : State :=
  (rigAsking (.write 0x1FFFC#32 0xF#4 0xF#4 [1#32, 2#32, 3#32])).modQueue 0 fun x => { x with state := .waiting }

/-- Two faults, one for each index word; point 56 not RISING. -/
theorem witness_MemoryWritesAreJudged_faults :
    (Calm straddle ∧ straddle.links[0].state = .opened ∧ straddle.port.waiting[0] = none ∧
      straddle.links[0].buffer = [.write 0x1FFFC#32 0xF#4 0xF#4 [1#32, 2#32, 3#32]]) ∧
    (placeBurst straddle writeOutcome 0 0x1FFFC#32 3).map Placed.dest = [.mem 0x1FFFC, .mem 0x20000, .mem 0x20004] ∧
    (inRegion straddle 0x1FFFC = false ∧ inRegion straddle 0x20000 = false ∧ inRegion straddle 0x20004 = false) ∧
    (indexWord straddle 0x1FFFC = none ∧ indexWord straddle 0x20000 = some (0, true) ∧
      indexWord straddle 0x20004 = some (0, false) ∧ straddle.queues[0].state = .waiting) ∧
    burstFaults straddle (placeBurst straddle writeOutcome 0 0x1FFFC#32 3) = 2 ∧
    straddle.points[(56 : PointId)].state ≠ .rising := by
  unfold Calm; decide

/-- R1, R27: the first word with the first-word enables, an inner word whole, the last with the last-word enables. R25, R163: the
second fault of a WRITE finds point 56 RAISED and raises its count again. -/
theorem test_windowTakeWrite :
    (after (.windowTakeWrite 0) (asking (.write 0x4000#32 1#4 8#4 [1#32, 2#32, 3#32]))).port.waiting[0] =
      some (.write [{ addr := 0x4000, data := 1#32, mask := 1#4, region := false },
        { addr := 0x4004, data := 2#32, mask := 0xF#4, region := false },
        { addr := 0x4008, data := 3#32, mask := 8#4, region := false }] []) ∧
    (after (.windowTakeWrite 0) (asking (word 0x10000000#32 5#32))).access[0].last = some (0x10000000#32, .unmapped) ∧
    (after (.windowTakeWrite 0) straddle).points[(56 : PointId)].count = 2 ∧
    (after (.windowTakeWrite 0) straddle).access[0].count = 2 := by decide

/-- `rig` whose STAGED window reaches past its group's range, with a WRITE of the group's last staged word, its arm word (ARM for
frame 9) and the first word past the range. -/
def mixed : State :=
  { rigAsking (.write 0x40000FF8#32 0x3#4 0xF#4 [5#32, 0x00090001#32, 7#32]) with
      cfg := { rig.cfg with windows := rig.cfg.windows.set 3 (window .staged 13 0x40000000 0x10000) } }

/-- Words of all three kinds in one WRITE. -/
theorem witness_MemoryWritesAreJudged_mixed :
    Calm mixed ∧ mixed.links[0].state = .opened ∧ mixed.port.waiting[0] = none ∧
    (placeBurst mixed writeOutcome 0 0x40000FF8#32 3).map Placed.dest = [.staged 0 0x10FF8, .arm 0 0x10FFC, .mem 0x11000] ∧
    inRegion mixed 0x11000 = false ∧ indexWord mixed 0x11000 = none ∧
    burstWords mixed (placeBurst mixed writeOutcome 0 0x40000FF8#32 3) 0x3#4 0xF#4 [5#32, 0x00090001#32, 7#32] =
      [{ addr := 0x11000, data := 7#32, mask := 0xF#4, region := false }] ∧
    burstStaging (placeBurst mixed writeOutcome 0 0x40000FF8#32 3) 0x3#4 0xF#4 [5#32, 0x00090001#32, 7#32] =
      [.staged 0 0x10FF8 5#32 0x3#4, .arm 0 0x00090001#32 0xF#4] := by
  unfold Calm; decide

/-- R30, R37: the staged word and the ARM wait for the grant of the memory word's transaction, and act at it. -/
theorem test_windowTakeWrite_mixed :
    ((after (.windowTakeWrite 0) mixed).staged = [] ∧ (after (.windowTakeWrite 0) mixed).groups[0].state = .opened) ∧
    ((after .memoryGrant (after (.windowTakeWrite 0) mixed)).staged =
        [{ group := 0, addr := 0x10FF8, data := 5#32, mask := 0x3#4, origin := 1#12, next := false }] ∧
      (after .memoryGrant (after (.windowTakeWrite 0) mixed)).groups[0].state = .armed ∧
      (after .memoryGrant (after (.windowTakeWrite 0) mixed)).groups[0].armedFrame = 9) := by decide

/-- A word of the valid group's range, the arm word, and a word of a group since made invalid. -/
theorem witness_StagedWords_kept : StagesAt mixed 0 0x10FF8 ∧ ¬ StagesAt mixed 0 0x10FFC ∧ ¬ StagesAt card 0 0x10FF8 := by
  unfold StagesAt; decide

/-- R91: a word whose group has become invalid before the grant makes no entry. -/
theorem test_memoryGrant_left :
    (after .memoryGrant { after (.windowTakeWrite 0) mixed with cfg := card.cfg }).staged = [] := by decide

/-- Each clause's first transaction over the ones after it; the slots' turn with the last granted one before the taker. -/
theorem witness_GrantOrder :
    ({ card with port := { card.port with commit := some [] } }.startUp = none ∧
      { card with port := { card.port with commit := some [] } }.port.flight = none) ∧
    { card with port := { card.port with zeroing := some 63 } }.port.commit = none ∧
    (busy.port.commit = none ∧ busy.port.zeroing = none ∧ busy.log.queue ≠ []) ∧
    ((card.setWaiting 0 (some (.read 0 [4] false))).log.queue = [] ∧ (0 : Nat) = (card.port.last.val + 1 + 0) % 12 ∧
      offered (card.setWaiting 0 (some (.read 0 [4] false))).port.waiting[0] = true ∧
      offered (card.setWaiting 0 (some (.read 0 [4] true))).port.waiting[0] = false) ∧
    ((card.setWaiting 0 (some (.write [] [.arm 0 1#32 0xF#4]))).log.queue = [] ∧
      offered (card.setWaiting 0 (some (.write [] [.arm 0 1#32 0xF#4]))).port.waiting[0] = true) := by decide

/-- R32, R34: a held READ is passed over. -/
theorem test_memoryGrant :
    (after .memoryGrant ((card.setWaiting 0 (some (.read 0 [4] true))).setWaiting 11 (some (.read 3 [8] false)))).port.flight =
      some (.slotRead 11 3 [8]) ∧
    (after .memoryGrant { card.setWaiting 0 (some (.read 0 [4] false)) with startUp := some 255 }).port.flight = none := by decide

/-- A READ of two words in flight, with its entry outstanding. -/
def reading : State :=
  { (link fun l => { l with reads := [{ id := 4, tag := 9#8, status := .ok, words := [none, none] }] }) with
      port := { card.port with flight := some (.slotRead 0 4 [64, 0x0FFFFFFC]) }, mem := [(64, 0xFE#8), (67, 1#8)] }

theorem witness_SlotTransactions :
    (reading.port.flight = some (.slotRead 0 4 [64, 0x0FFFFFFC]) ∧
      reading.links[0].reads = [] ++ { id := 4, tag := 9#8, status := .ok, words := [none, none] } :: []) ∧
    ({ busy with port := { busy.port with
        flight := some (.slotWrite 0 [{ addr := 0x0FFFFFFC, data := 1#32, mask := 8#4, region := false }]) } }.MemoryOk) ∧
    ((rig.setWaiting 0 (some (.read 0 [0x10FFC] true))).port.waiting[0] = some (.read 0 [0x10FFC] true) ∧
      (∀ g : GroupId, rig.groups[g].state ≠ .committing) ∧
      (staging .committing []).groups[0].state = .committing ∧ rig.cfg.groups[0].valid = true ∧
      rig.cfg.groups[0].base ≤ 0x10FFC ∧ 0x10FFC < rig.cfg.groups[0].base + rig.cfg.groups[0].pages * 4096) := by
  unfold State.MemoryOk; decide

/-- Two words side by side share no byte. -/
theorem witness_SlotTransactions_words :
    WordsApart [{ addr := 0x4000, data := 1#32, mask := 1#4, region := false },
      { addr := 0x4004, data := 2#32, mask := 0xF#4, region := false }] ∧
    WordsApart [commitWord (entry 0x10004 false), commitWord (entry 0x10000 false)] := by
  unfold WordsApart; decide

/-- An entry of which one word has its value, two are read and the last finds no word read. -/
theorem witness_SlotTransactions_filled :
    ({ reading with links := reading.links.set 0 { reading.links[0] with
        reads := [{ id := 4, tag := 9#8, status := .ok, words := [none, some 7#32, none, none] }] } }).links[0].reads =
      [] ++ { id := 4, tag := 9#8, status := .ok, words := [none, some 7#32, none, none] } :: [] ∧
    ([none, some 7#32, none, none] : List (Option Word))[1]? = some (some 7#32) ∧
    ([64, 0x0FFFFFFC] : List Nat)[(([none, some 7#32, none, none] : List (Option Word)).take 2).count none]? =
      some 0x0FFFFFFC ∧
    ([64, 0x0FFFFFFC] : List Nat).length ≤ (([none, some 7#32, none, none] : List (Option Word)).take 3).count none := by decide

/-- R35: the least significant byte lies lowest. -/
theorem test_slotReadComplete : (after .slotReadComplete reading).links[0].reads =
    [{ id := 4, tag := 9#8, status := .ok, words := [some 0x010000FE#32, some 0#32] }] := by decide

theorem test_slotWriteComplete :
    (after .slotWriteComplete { reading with port := { card.port with
      flight := some (.slotWrite 0 [{ addr := 64, data := 0xAABBCCDD#32, mask := 0x6#4, region := false }]) } }).mem =
      [(64, 0xFE#8), (65, 0xCC#8), (66, 0xBB#8), (67, 1#8)] := by decide

theorem test_heldReadRelease :
    (after (.heldReadRelease 0) (rig.setWaiting 0 (some (.read 0 [0x10FFC] true)))).port.waiting[0] =
      some (.read 0 [0x10FFC] false) ∧
    (after (.heldReadRelease 0) ((staging .committing []).setWaiting 0 (some (.read 0 [0x10FFC] true)))).port.waiting[0] =
      some (.read 0 [0x10FFC] true) := by decide

/-! ## Card queues, notices and staging groups -/

theorem witness_OpenAndClose :
    (Calm rig ∧ ReachesRegion rig (at0 0x203) (queueIdx 0 3) ∧ rig.queues[0].state = .closed) ∧
    (Calm (ring 1 0 .readyToFence) ∧ (ring 1 0 .readyToFence).queues[0].state ≠ .closed) ∧
    (Calm card ∧ ReachesRegion card (at0 0x2FF) (queueIdx 63 3)) := by
  unfold Calm ReachesRegion; decide

/-- Slot 0's list holds queue 0's notice alone, its overflow mark set, and one beside it. -/
theorem witness_OpenAndClose_lists : card.cfg.InRange ∧
    ∀ rest ∈ [[], [({ id := .frame, details := .blank, count := 1 } : Entry)]],
      Calm { ring 1 0 .readyToFence with lists := (rig.lists.set 0
        { entries := ({ id := .queue .ready 0, details := .blank, count := 1 } : Entry) :: rest, overflow := true }) } :=
  ⟨card_cfg_inRange, by unfold Calm; decide⟩

/-- R41, R44: the descriptor passes and slot 0 is live, so the queue opens at once; a high watermark of 1 over a low one of 1
is a bad descriptor. -/
theorem test_openQueue : (after (.openQueue (at0 0x203) 0) rig).queues[0].state = .opening ∧
    (after (.openQueue (at0 0x203) 0) { rig with cfg := { rig.cfg with
      queues := rig.cfg.queues.set 0 { rig.cfg.queues[0] with high := 1 } } }).queues[0].result = .badDescriptor := by decide

theorem test_closeQueue :
    (after (.closeQueue (at0 0x203) 0)
      { rig.modQueue 0 fun x => { x with state := .opened, p := 2 } with
        lists := rig.lists.set 0 { entries := [{ id := .queue .ready 0, details := .indices 2 0, count := 1 },
                                              { id := .frame, details := .blank, count := 1 }]
                                   overflow := false } }).lists[0].entries = [{ id := .frame, details := .blank, count := 1 }] ∧
    (after (.closeQueue (at0 0x203) 0) (rig.modQueue 0 fun x => { x with state := .opened, p := 2 })).queues[0].p = 2 := by
  decide

/-- Slot 0 writes an index word of queue 0. -/
def WritesIndex (s : State) (addr data : Word) (producer : Bool) : Prop :=
  Calm s ∧ HeadWord s 0 addr 0xF#4 0xF#4 data [] (.mem addr.toNat) ∧ inRegion s addr.toNat = false ∧
    indexWord s addr.toNat = some (0, producer) ∧ NoAlarmSub s

/-- The producer's word with an advance equal to the room and one past it, the consumer's with one equal to the occupancy and
one past it, the index as it stands; and a mask that takes one byte of the index from the write and one from the queue. -/
theorem witness_IndexWordsAreJudged :
    (WritesIndex (ring 65535 65535 (word 0x20000#32 1#32)) 0x20000#32 1#32 true ∧ index16 1 65535 = 2 ∧
      cellsOf rig.cfg.queues[0] - occupancy (ring 65535 65535 (word 0x20000#32 1#32)).queues[0] = 2 ∧
      rig.cfg.queues[0].producer = 0) ∧
    (WritesIndex (ring 65535 65535 (word 0x20000#32 2#32)) 0x20000#32 2#32 true ∧ index16 2 65535 = 3) ∧
    (WritesIndex (ring 65535 65535 (word 0x20000#32 0xFFFF#32)) 0x20000#32 0xFFFF#32 true ∧ index16 0xFFFF 65535 = 0) ∧
    (WritesIndex (ring 2 0 (word 0x20004#32 2#32)) 0x20004#32 2#32 false ∧
      occupancy (ring 2 0 (word 0x20004#32 2#32)).queues[0] = 2 ∧ index16 2 0 = 2 ∧ rig.cfg.queues[0].consumer = 0) ∧
    (WritesIndex (ring 2 0 (word 0x20004#32 3#32)) 0x20004#32 3#32 false ∧ index16 3 0 = 3) ∧
    ((0x2#4 : Mask).getLsbD 0 = false ∧ (0x2#4 : Mask).getLsbD 1 = true) := by
  unfold WritesIndex Calm HeadWord NoAlarmSub
  repeat' apply And.intro
  all_goals decide

/-- The queue in WAITING and in OPENING; and slot 0 at the word of another slot, the queue OPEN. -/
theorem witness_IndexWordsAreJudged_faults :
    (WritesIndex ((rigAsking (word 0x20000#32 1#32)).modQueue 0 fun x => { x with state := .waiting }) 0x20000#32 1#32 true ∧
      WritesIndex ((rigAsking (word 0x20004#32 1#32)).modQueue 0 fun x => { x with state := .opening }) 0x20004#32 1#32 false) ∧
    (∃ s : State, WritesIndex s 0x20000#32 1#32 true ∧ s.queues[0].state = .opened ∧ s.cfg.queues[0].producer = 11) :=
  ⟨by unfold WritesIndex Calm HeadWord NoAlarmSub; decide,
    { ring 0 0 (word 0x20000#32 1#32) with
      cfg := { rig.cfg with queues := rig.cfg.queues.set 0 { rig.cfg.queues[0] with producer := 11 } } },
    by unfold WritesIndex Calm HeadWord NoAlarmSub; decide⟩

theorem witness_IndexWordsAreJudged_points :
    (ring 65535 65535 (word 0x20000#32 2#32)).points[(53 : PointId)].state ≠ .rising ∧
    (ring 2 0 (word 0x20004#32 3#32)).points[(56 : PointId)].state ≠ .rising := by decide

/-- R48: the producer's index wraps and the write waits; R50: an advance past the room is an overrun. -/
theorem test_indexWord :
    (after (.windowTakeWrite 0) (ring 65535 65535 (word 0x20000#32 1#32))).queues[0].p = 1 ∧
    (after (.windowTakeWrite 0) (ring 65535 65535 (word 0x20000#32 2#32))).queues[0].overrun = true := by decide

/-- R50: an overrun raises point 53. -/
theorem test_indexWord_point :
    (after (.windowTakeWrite 0) (ring 65535 65535 (word 0x20000#32 2#32))).points[(53 : PointId)].state = .raised := by decide

theorem witness_ZeroingOpensTheQueue :
    ((rig.modQueue 0 fun x => { x with state := .opening }).port.zeroing = none ∧
      (rig.modQueue 0 fun x => { x with state := .opening }).queues[0].state = .opening ∧
      indexBusy (rig.modQueue 0 fun x => { x with state := .opening }) 0x20000 = false) ∧
    (∀ x : QueueId, x < 0 → (rig.queues[x].state ≠ .opening)) ∧
    (Calm ({ (rig.modQueue 0 fun x => { x with state := .opening, offered := true }) with
        port := { rig.port with flight := some (.zeroing 0 0x20000) } }) ∧
      ({ (rig.modQueue 0 fun x => { x with state := .opening, offered := true }) with
        port := { rig.port with flight := some (.zeroing 0 0x20000) } }).MemoryOk ∧ NoAlarmSub rig) := by
  unfold Calm State.MemoryOk NoAlarmSub; decide

theorem test_queueZeroingOffer :
    (after .queueZeroingOffer (rig.modQueue 0 fun x => { x with state := .opening })).port.zeroing = some 0 := by decide

theorem test_zeroingComplete :
    (after .zeroingComplete { (rig.modQueue 0 fun x => { x with state := .opening, offered := true }) with
      port := { rig.port with flight := some (.zeroing 0 0x20000) }, mem := [(0x20007, 1#8), (0x20008, 2#8)] }).mem =
      [(0x20008, 2#8)] ∧
    (after .zeroingComplete { (rig.modQueue 0 fun x => { x with state := .opening, offered := true }) with
      port := { rig.port with flight := some (.zeroing 0 0x20000) } }).queues[0].state = .opened := by decide

/-- A list of k entries, none of them FRAME or RESYNC. -/
def listed (k : Nat) : State :=
  { card with lists := (card.lists.set 0 {
      entries := ((List.finRange 64).take k).map fun q => { id := .queue .posted q, details := .indices 0 0, count := 1 }
      overflow := false }) }

/-- Not live; merged; 31 entries; a RESYNC on the list; 32 entries. -/
theorem witness_NoticesAreTaken : live card 1 = false ∧ live (listed 31) 0 = true ∧
    (∃ e ∈ (listed 31).lists[0].entries, e.id = .queue .posted 30) ∧
    (∀ e ∈ (listed 31).lists[0].entries, e.id ≠ .frame ∧ e.id ≠ .resync) ∧ (listed 31).lists[0].entries.length < 32 ∧
    (∃ e ∈ (talking [{ id := .resync, details := .blank, count := 1 }] []).lists[0].entries, e.id = .resync) ∧
    ((∀ e ∈ (listed 32).lists[0].entries, e.id ≠ .frame ∧ e.id ≠ .resync) ∧ 32 ≤ (listed 32).lists[0].entries.length) := by
  refine ⟨by decide, by decide, ⟨{ id := .queue .posted 30, details := .indices 0 0, count := 1 }, by decide, rfl⟩, by decide, by decide,
    ⟨{ id := .resync, details := .blank, count := 1 }, by decide, rfl⟩, by decide⟩

theorem witness_ArmWordOperations :
    (Calm rig ∧ ReachesArm rig armOrigin 0) ∧ (Calm (staging .committing [entry 0x10000 false]) ∧
      ReachesArm (staging .committing [entry 0x10000 false]) armOrigin 0) ∧ ((7#4 : Mask) ≠ 0xF#4) ∧
    (4#32 : Word).toNat % 4 = 0 := by
  unfold Calm ReachesArm; decide

theorem test_armGroup : (after (.armGroup armOrigin 0 1023#10) rig).groups[0].armedFrame = 1023 ∧
    (after (.armGroup armOrigin 0 5#10) (staging .committing [])).groups[0].pendingArm = some 5 := by decide

theorem test_disarmGroup : (after (.disarmGroup armOrigin 0) (staging .armed [])).groups[0].state = .opened := by decide

/-- R82: DISCARD spares a round being served. -/
theorem test_discardGroup :
    (after (.discardGroup armOrigin 0) (staging .committing [entry 0x10000 false, entry 0x10000 true])).staged =
      [entry 0x10000 false] ∧
    (after (.discardGroup armOrigin 0) (staging .armed [entry 0x10000 false])).staged = [] := by decide

theorem test_armWordIgnored : (after (.armWordIgnored armOrigin 0 0x1#32 0x7#4) rig).groups[0].state = .opened ∧
    (after (.armWordIgnored armOrigin 0 0x4#32 0xF#4) rig).groups[0].state = .opened := by decide

/-- A hit, a new entry with 255 staged, a full list with 256, and a word none of whose bytes both sets enable. -/
theorem witness_StagedWords :
    (Calm (rigAsking (word 0x40000FF8#32 5#32)) ∧
      HeadWord (rigAsking (word 0x40000FF8#32 5#32)) 0 0x40000FF8#32 0xF#4 0xF#4 5#32 [] (.staged 0 0x10FF8)) ∧
    (∃ e ∈ (staging .opened [entry 0x10FF8 false]).staged, e.group = 0 ∧ e.addr = 0x10FF8 ∧ e.next = false) ∧
    ((List.replicate 255 (entry 0x10000 false)).length < 256 ∧ 256 ≤ (List.replicate 256 (entry 0x10000 false)).length) ∧
    ((3#4 : Mask) &&& 0xC#4 = 0#4 ∧ (0xF#4 : Mask) &&& 0xF#4 ≠ 0#4) := by
  refine ⟨by unfold Calm HeadWord; decide, ⟨entry 0x10FF8 false, by decide, by decide, by decide, by decide⟩,
    ⟨by rw [List.length_replicate]; decide, by rw [List.length_replicate]⟩, by decide⟩

/-- The writer live, and fenced while its WRITE stands. -/
theorem witness_StagedWords_live : live (rigAsking (word 0x40000FF8#32 5#32)) 0 = true ∧
    (Calm ((rigAsking (word 0x40000FF8#32 5#32)).modSwap 0 fun w => { w with state := .fenced }) ∧
      HeadWord ((rigAsking (word 0x40000FF8#32 5#32)).modSwap 0 fun w => { w with state := .fenced }) 0 0x40000FF8#32 0xF#4 0xF#4
        5#32 [] (.staged 0 0x10FF8) ∧
      live ((rigAsking (word 0x40000FF8#32 5#32)).modSwap 0 fun w => { w with state := .fenced }) 0 = false) := by
  unfold Calm HeadWord; decide

/-- R75: a merge keeps the bytes the write does not enable. -/
theorem test_stagedWord :
    (after (.windowTakeWrite 0) ((staging .opened [entry 0x10FF8 false]).modLink 0 fun l =>
      { l with buffer := [.write 0x40000FF8#32 0x3#4 0x7#4 [0xAABBCCDD#32]] })).staged =
      [{ entry 0x10FF8 false with data := 0x1122CCDD#32 }] := by decide

/-- Two entries in a run, then one apart from it; an empty round; a commit with one entry left and one with none. -/
theorem witness_CommitRounds :
    (Calm { staging .committing [entry 0x10000 false, entry 0x10004 false, entry 0x1000C false] with rounds := [0] } ∧
      ({ staging .committing [entry 0x10000 false, entry 0x10004 false, entry 0x1000C false] with rounds := [0] }).serving =
        false) ∧
    ((staging .committing [entry 0x10000 true]).staged.filter (fun e => decide (e.group = 0 ∧ e.next = false)) = [] ∧
      (staging .committing []).warmPending = false) ∧
    (∃ e ∈ (staging .committing [entry 0x10000 false, entry 0x10004 false]).staged, e.group = 0 ∧ e.next = false ∧
      ∀ w ∈ [commitWord (entry 0x10000 false)], w.addr ≠ e.addr) ∧
    (∀ e ∈ (staging .committing [entry 0x10000 false]).staged, e.group = 0 → e.next = false →
      ∃ w ∈ [commitWord (entry 0x10000 false)], w.addr = e.addr) ∧
    ({ staging .committing [entry 0x10000 false] with mem := [(64, 1#8)] }).MemoryOk ∧ NoAlarmSub (staging .committing []) := by
  refine ⟨by unfold Calm; decide, by decide, ⟨entry 0x10004 false, by decide, by decide, by decide, by decide⟩, ?_,
    by unfold State.MemoryOk; decide, by unfold NoAlarmSub; decide⟩
  intro e he _ _
  rw [show (staging .committing [entry 0x10000 false]).staged = [entry 0x10000 false] from rfl, List.mem_singleton] at he
  exact ⟨commitWord (entry 0x10000 false), List.mem_singleton.2 rfl, by rw [he]; rfl⟩

/-- The last group's round, and one beside another's, end with a WARM_RESET pending; READs wait on each group's range. -/
theorem witness_CommitRounds_warm :
    (∀ es ∈ [[], [entry 0x10000 false, entry 0x10008 true]],
      Calm { staging .committing es with rounds := [0], warmPending := true } ∧
      (∀ h : GroupId, h ≠ 0 → (staging .committing es).groups[h].state ≠ .committing) ∧
      (∀ m : SlotId, live (staging .committing es) m = true → TakesNotice (.commitDone 0) (staging .committing es).lists[m])) ∧
    (∃ h : GroupId, h ≠ 0 ∧
      ((staging .committing []).modGroup 1 fun g => { g with state := .committing }).groups[h].state = .committing) ∧
    ((staging .committing []).setWaiting 0 (some (.read 0 [0x10FFC] true))).port.waiting[0] = some (.read 0 [0x10FFC] true) := by
  refine ⟨by unfold Calm TakesNotice; decide, ⟨1, by decide, by decide⟩, by decide⟩

/-- R85: the run of following addresses goes in one transaction; R87: an empty round ends at once. -/
theorem test_commitRoundStart :
    ((after .commitRoundStart { staging .committing [entry 0x10000 false, entry 0x10004 false, entry 0x1000C false] with
      rounds := [0] }).port.commit.map List.length) = some 2 ∧
    (after .commitRoundStart { staging .committing [] with rounds := [0] }).groups[0].state = .opened := by decide

theorem test_commitTransactionComplete :
    (after .commitTransactionComplete { staging .committing [entry 0x10000 false] with
      rounds := [0], serving := true, port := { rig.port with flight := some (.commit [commitWord (entry 0x10000 false)]) } }).mem =
      [(0x10000, 0x44#8), (0x10001, 0x33#8), (0x10002, 0x22#8), (0x10003, 0x11#8)] := by decide

/-- R32, R194: the round's end releases a READ, and carries out the WARM_RESET that waited for it, which withdraws it. -/
theorem test_commitTransactionComplete_ends :
    (endRound 0 ((staging .committing []).setWaiting 0 (some (.read 0 [0x10FFC] true)))).1.port.waiting[0] =
      some (.read 0 [0x10FFC] false) ∧
    (endRound 0 { (staging .committing []).setWaiting 0 (some (.read 0 [0x10FFC] true)) with
      warmPending := true }).1.port.waiting[0] = none := by decide

/-- One period before frame 1. -/
def eve (torn : Bool) : State :=
  { ((staging .armed [entry 0x10000 false]).modGroup 0 fun g => { g with armedFrame := 1, torn := torn }) with
      time := { rig.time with ns := 9999992 } }

theorem witness_DueGroupsCommit : (Calm (eve false) ∧ crosses (eve false) = true ∧
      frameOf (advance (eve false).time).sec (advance (eve false).time).ns = 1 ∧ (eve false).groups[0].state = .armed ∧
      (eve false).groups[0].armedFrame = 1 ∧ (eve false).groups[0].torn = false) ∧
    (Calm (eve true) ∧ (eve true).groups[0].torn = true ∧ (eve true).groups[1].state ≠ .armed) ∧
    (NoAlarmSub (eve false) ∧ NoAlarmSub (eve true)) := by
  unfold Calm NoAlarmSub; decide

theorem witness_DueGroupsCommit_point : (eve true).points[(54 : PointId)].state ≠ .rising ∧
    (eve true).cfg.points[(54 : PointId)].enable = true ∧ (eve true).groups[0].state = .armed ∧
    (eve true).groups[0].armedFrame = 1 := by decide

/-- A READ of the due group's range waits. -/
theorem witness_DueGroupsCommit_read : Calm ((eve false).setWaiting 0 (some (.read 0 [0x10FFC] false))) ∧
    ((eve false).setWaiting 0 (some (.read 0 [0x10FFC] false))).port.waiting[0] = some (.read 0 [0x10FFC] false) := by
  unfold Calm; decide

/-- R32: it is held from the tick on. -/
theorem test_continuousFrameTick_holds :
    (dueGroups 1 ((eve false).setWaiting 0 (some (.read 0 [0x10FFC] false)))).1.port.waiting[0] =
      some (.read 0 [0x10FFC] true) := by decide +kernel

theorem test_continuousFrameTick : (after (.continuousFrameTick .stagingFirst) (eve false)).groups[0].state = .committing ∧
    (after (.continuousFrameTick .framesFirst) (eve true)).staged = [] := by decide +kernel

/-- R83: the torn group hands the alarm unit one event of point 54. -/
theorem test_continuousFrameTick_point : (takePeriod .framesFirst (eve true)).2 = [.event 54] := by decide

/-! ## Cabinet timebase -/

theorem witness_OscillatorPeriods : crosses (eve false) = true ∧
    ((-2000000 : Int) ≤ { card.time with applied := 2000000 }.applied ∧ { card.time with applied := 2000000 }.applied ≤ 2000000) ∧
    ((99999999999 + (800000000000 + 8 * (2000000 : Int)) : Int) = (900015999999 : Nat)) := by decide

/-- A period that ends a millisecond and one that does not, neither at a frame boundary; and one that crosses a boundary. -/
theorem witness_OscillatorPeriods_ticks :
    (Calm { card with time := { card.time with divider := 124999 } } ∧
      crosses { card with time := { card.time with divider := 124999 } } = false ∧ card.time.applied = 0) ∧
    (Calm card ∧ crosses card = false ∧ card.time.divider + 1 ≠ 125000 ∧ card.links[0].cadenceTimer = some 1000) ∧
    (Calm (eve false) ∧ (after (.localOscillatorPeriod .stagingFirst) card).frame = card.frame) := by
  unfold Calm; decide

/-- R93: a period of 8 ns with no correction, at the end of a second; the 125,000th period makes a tick. -/
theorem test_localOscillatorPeriod :
    (after (.localOscillatorPeriod .stagingFirst) { card with time := { card.time with ns := 999999992 } }).time.sec = 1 ∧
    (after (.localOscillatorPeriod .stagingFirst) { card with time := { card.time with divider := 124999 } }).contactDue[7] = true := by
  decide

/-- R94: the tick takes 1 from a running timer; R178: and starts the scan interval timer, at 100. -/
theorem test_localOscillatorPeriod_tick :
    (after (.localOscillatorPeriod .stagingFirst) { card with time := { card.time with divider := 124999 } }).links[0].cadenceTimer =
      some 999 ∧
    (after (.localOscillatorPeriod .stagingFirst) { card with time := { card.time with divider := 124999 } }).scan.timer =
      some 100 := by decide

/-- A first pulse; one at the gate's edge after 1 s and one just past it. -/
theorem witness_PulsesAreGated :
    (Calm (pulse .free 1 10000) ∧ (pulse .free 1 10000).refs[0].edge = some { capture := { sec := 1, ns := 10000 }, periods := 4 } ∧
      (pulse .free 1 10000).cfg.refs[0].enable = true ∧ (pulse .free 1 10000).refs[0].capture = none) ∧
    (elapsed { sec := 0, ns := 0 } { sec := 1, ns := 10000 } = 1 * 1000000000 + (card.cfg.gate : Int) ∧
      elapsed { sec := 0, ns := 0 } { sec := 1, ns := 10001 } = 1 * 1000000000 + (card.cfg.gate : Int) + 1) ∧
    (∀ k ∈ [1, 2, 3], elapsed { sec := 0, ns := 0 } { sec := 1, ns := 10001 } < (k : Int) * 1000000000 - (card.cfg.gate : Int) ∨
      (k : Int) * 1000000000 + (card.cfg.gate : Int) < elapsed { sec := 0, ns := 0 } { sec := 1, ns := 10001 }) := by
  unfold Calm; decide

/-- Reference A pulses while B is the active one: with the greater priority A displaces it, with the same priority too, and with
the lesser B stays. -/
def rival (priority : Fin 4) (load : Option Nat) : State :=
  { (((pulse .acquire 1 7).modRef 0 fun f => { f with qualified := false }).modRef 1 fun f =>
      { f with qualified := true, capture := some { sec := 1, ns := 500 } }) with
    cfg := { card.cfg with refs := Vector.ofFn fun r : RefId =>
      { enable := true, priority := if r = 0 then priority.val else 1, delay := 0 } }
    time := { card.time with loop := .acquire, active := some 1, load := load, sec := 1, ns := 7 }
    frame := 100 }

theorem witness_PulsesAreGated_displaces :
    (∀ k ∈ [1, 2], Calm (rival k none) ∧ (rival k none).time.load = none ∧ (rival k none).time.active = some 1 ∧
      (rival k none).FrameAgrees ∧
      chosenRef ((rival k none).modRef 0 (acceptPulse { sec := 1, ns := 7 })) = some 0) ∧
    (Calm (rival 0 none) ∧ chosenRef ((rival 0 none).modRef 0 (acceptPulse { sec := 1, ns := 7 })) = some 1 ∧
      accepts (rival 0 none).cfg (rival 0 none).refs[0] { sec := 1, ns := 7 } = true) := by
  unfold Calm State.FrameAgrees; decide

/-- R103: a pulse that displaces the other reference leaves no capture, and one that does not leaves its own. -/
theorem test_pulseEvent_displaces :
    (after (.pulseEvent 0 .stagingFirst) (rival 2 none)).refs[0].capture = none ∧
    (after (.pulseEvent 0 .stagingFirst) (rival 0 none)).refs[0].capture = some { sec := 1, ns := 7 } := by decide

theorem test_referenceLineEdge :
    ((after (.referenceLineEdge 0 true) (pulse .free 3 5)).refs[0].edge) = some { capture := { sec := 3, ns := 5 }, periods := 0 } ∧
    ((after (.referenceLineEdge 0 false) ((pulse .free 3 5).modRef 0 fun f =>
      { f with line := true, edge := some { capture := { sec := 3, ns := 5 }, periods := 3 } })).refs[0].edge) = none := by decide

/-- R104, R106: an error of 160 ns with ki 4 and kp 2: F is −16,000/16, P is −16,000/4. -/
theorem test_pulseEvent :
    (after (.pulseEvent 0 .stagingFirst) (pulse .acquire 1 160)).time.freq = -1000 ∧
    (after (.pulseEvent 0 .stagingFirst) (pulse .acquire 1 160)).time.applied = -5000 := by decide +kernel

/-- Each loop state with an error at the step threshold, and one past it. -/
theorem witness_LoopActsOnPulses :
    ((pulse .acquire 1 10000).refs[0].edge = some { capture := { sec := 1, ns := 10000 }, periods := 4 } ∧
      accepts (pulse .acquire 1 10000).cfg (pulse .acquire 1 10000).refs[0] { sec := 1, ns := 10000 } = true ∧
      (pulse .acquire 1 10000).time.load = none ∧ (pulse .acquire 1 10000).time.active = some 0 ∧
      chosenRef ((pulse .acquire 1 10000).modRef 0 (acceptPulse { sec := 1, ns := 10000 })) = some 0) ∧
    phaseError 10000 0 = 10000 ∧ phaseError 10001 0 = 10001 ∧ (pulse .acquire 1 10000).cfg.stepThreshold = 10000 ∧
    phaseError 200 0 = 200 ∧ phaseError 201 0 = 201 ∧ (pulse .locked 1 200).cfg.lockWindow = 200 ∧
    (pulse .locked 1 200).time.loop = .locked ∧ (pulse .holdover 1 200).time.loop ≠ .locked ∧
    (Calm (pulse .acquire 1 10001) ∧ NoAlarmSub (pulse .acquire 1 10001)) := by
  unfold Calm NoAlarmSub; decide

theorem witness_LoopActsOnPulses_points : Calm (pulse .locked 1 200) ∧ Calm (pulse .holdover 1 200) := by unfold Calm; decide

/-- The phase error at the ends of R104's two halves, and a quotient with its halves away from zero, as R97 says. -/
theorem witness_LoopActsOnPulses_error :
    (IsPhaseError 499999999 0 499999999 ∧ IsPhaseError 500000000 0 (-500000000) ∧ IsPhaseError 0 1 (-1) ∧
      IsPhaseError 0 999999 (-999999)) ∧
    (IsRounded 8 4 1 ∧ IsRounded (-8) 4 (-1) ∧ IsRounded 7 4 0 ∧ IsRounded 5 0 5) ∧
    ∀ x k, IsRounded x k (divR x k) :=
  ⟨⟨⟨_, rfl, by decide⟩, ⟨_, rfl, by decide⟩, ⟨_, rfl, by decide⟩, ⟨_, rfl, by decide⟩⟩,
    by unfold IsRounded; decide, divR_isRounded⟩

theorem witness_HardSets : ({ pulse .free 1 7 with time := { (pulse .free 1 7).time with load := some 281474976710655 } }.time.load =
      some 281474976710655 ∧ 281474976710655 < 2 ^ 48) ∧
    (pulse .free 1 7).cfg.refs[0].delay ≤ 999999 ∧
    accepts (pulse .free 1 7).cfg (pulse .free 1 7).refs[0] { sec := 1, ns := 7 } = true ∧
    (1 < 2 ^ 48 ∧ 7 < 1000000000 ∧ Calm (pulse .free 1 7) ∧ NoAlarmSub (pulse .free 1 7)) := by
  unfold Calm NoAlarmSub; decide

/-- A hard set at a pulse that displaces the active reference, and at one of a reference that stays second. -/
theorem witness_HardSets_rival :
    (chosenRef ((rival 2 (some 9)).modRef 0 (acceptPulse { sec := 1, ns := 7 })) = some 0 ∧ (rival 2 (some 9)).time.load = some 9 ∧
      (rival 2 (some 9)).time.active = some 1 ∧ Calm (rival 2 (some 9))) ∧
    chosenRef ((rival 0 (some 9)).modRef 0 (acceptPulse { sec := 1, ns := 7 })) = some 1 := by
  unfold Calm; decide

/-- R108: the capture becomes (L, D) and the load is consumed. -/
theorem test_hardSet :
    (after (.pulseEvent 0 .stagingFirst) { pulse .free 1 7 with
      time := { (pulse .free 1 7).time with load := some 500 } }).time.sec = 500 ∧
    (after (.pulseEvent 0 .stagingFirst) { pulse .free 1 7 with
      time := { (pulse .free 1 7).time with load := some 500 } }).time.ns = 0 := by decide +kernel

/-- R88, R118: the hard set changes the frame number, 100 × 500 mod 1,024, and disarms an armed group. -/
theorem test_pulseEvent_discontinuity :
    (after (.pulseEvent 0 .stagingFirst) { (pulse .free 1 7).modGroup 0 (fun g => { g with state := .armed }) with
      time := { (pulse .free 1 7).time with load := some 500 } }).groups[0].state = .opened ∧
    (after (.pulseEvent 0 .stagingFirst) { pulse .free 1 7 with
      time := { (pulse .free 1 7).time with load := some 500 } }).frame = 848 := by decide +kernel

/-- Reference A the active one, its miss timer past its limit. -/
def silent (loop : LoopState) (misses : Nat) : State :=
  { card.modRef 0 fun f => { f with qualified := true, misses := misses, missTimer := some (1000010000 * 100000000000 + 1) } with
      cfg := { card.cfg with refs := card.cfg.refs.set 0 { enable := true, priority := 0, delay := 0 } }
      time := { card.time with loop := loop, active := some 0, holdTimer := some 0, holdCount := 14399 } }

/-- A miss below the limit, and the one that reaches it with no other reference usable; the last second of HOLDOVER. -/
theorem witness_LostReferences :
    ((silent .locked 1).refs[0].missTimer = some (1000010000 * 100000000000 + 1) ∧
      (1000000000 + (silent .locked 1).cfg.gate) * 100000000000 < 1000010000 * 100000000000 + 1 ∧
      (silent .locked 1).refs[0].misses + 1 < (silent .locked 1).cfg.missLimit ∧ Calm (silent .locked 1)) ∧
    ((silent .locked 2).cfg.missLimit ≤ (silent .locked 2).refs[0].misses + 1 ∧ (silent .locked 2).time.active = some 0 ∧
      ∀ q : RefId, q ≠ 0 → usable (silent .locked 2) q = false) ∧
    ((silent .holdover 0).time.loop = .holdover ∧ (silent .holdover 0).time.holdTimer = some 0) := by
  unfold Calm; decide

/-- The last second of HOLDOVER, and one with a second still to run; point 50 not RISING. -/
theorem witness_LostReferences_seconds :
    (Calm (silent .holdover 0) ∧ (silent .holdover 0).cfg.holdoverLimit ≤ (silent .holdover 0).time.holdCount + 1 ∧
      (silent .holdover 0).points[(50 : PointId)].state ≠ .rising) ∧
    (∃ s : State, Calm s ∧ s.time.loop = .holdover ∧ s.time.holdTimer = some 0 ∧ s.time.holdCount + 1 < s.cfg.holdoverLimit) :=
  ⟨by unfold Calm; decide,
    { silent .holdover 0 with time := { (silent .holdover 0).time with holdCount := 0 } }, by unfold Calm; decide⟩

/-- The active reference LOST out of LOCKED, with the holdover limit as reset leaves it and with one of 0. -/
theorem witness_LostReferences_locked :
    (Calm (silent .locked 2) ∧ (silent .locked 2).time.loop = .locked ∧ (silent .locked 2).cfg.holdoverLimit ≠ 0) ∧
    (∃ s : State, Calm s ∧ s.cfg.holdoverLimit = 0 ∧ s.time.loop = .locked ∧ s.time.active = some 0 ∧
      s.cfg.missLimit ≤ s.refs[0].misses + 1 ∧ (∀ q : RefId, q ≠ 0 → usable s q = false) ∧
      s.points[(50 : PointId)].state ≠ .rising) :=
  ⟨by unfold Calm; decide,
    { silent .locked 2 with cfg := { (silent .locked 2).cfg with holdoverLimit := 0 } }, by unfold Calm; decide⟩

/-- The active reference is LOST with the other usable, and the other is with it. -/
theorem witness_LostReferences_other :
    (usable (rival 1 none) 1 = true ∧ (rival 1 none).time.active = some 1 ∧ (0 : RefId) ≠ 1) ∧
    (∃ s : State, s.time.active = some 0 ∧ usable s 1 = true ∧ s.cfg.missLimit ≤ s.refs[0].misses + 1 ∧
      s.refs[0].missTimer = some (1000010000 * 100000000000 + 1) ∧ s.refs[1].capture = some { sec := 1, ns := 500 }) ∧
    (∃ s : State, s.time.active = some 1 ∧ usable s 1 = true ∧ s.cfg.missLimit ≤ s.refs[0].misses + 1 ∧
      s.refs[0].missTimer = some (1000010000 * 100000000000 + 1)) := by
  refine ⟨by decide, ⟨{ ((rival 1 none).modRef 0 fun f => { f with misses := 2, missTimer := some (1000010000 * 100000000000 + 1) })
      with time := { (rival 1 none).time with active := some 0 } }, by decide⟩,
    ⟨(rival 1 none).modRef 0 fun f => { f with misses := 2, missTimer := some (1000010000 * 100000000000 + 1) }, by decide⟩⟩

theorem test_missTimerExpiry : (after (.missTimerExpiry 0) (silent .locked 2)).time.loop = .holdover ∧
    (after (.missTimerExpiry 0) (silent .locked 1)).refs[0].misses = 2 := by decide

/-- R98, R110: the lost reference raises point 51 and the HOLDOVER it leaves point 49. -/
theorem test_missTimerExpiry_points : (takeMiss 0 (silent .locked 2)).2 =
    [.cond 51 true, .cond 52 false, .cond 48 true, .cond 49 true, .cond 48 true, .cond 49 true] := by decide

/-- R114: the 14,400th second ends HOLDOVER. -/
theorem test_holdoverTimerExpiry : (after .holdoverTimerExpiry (silent .holdover 0)).time.loop = .free := by decide

theorem witness_TimebaseWrites : card.cfg.InRange ∧ ReachesRegion card (at0 15) (globalIdx 15) ∧
    ReachesRegion card (at0 17) (globalIdx 17) ∧ ReachesRegion card (at0 5) (globalIdx 5) :=
  ⟨card_cfg_inRange, by unfold ReachesRegion; decide⟩

theorem witness_TimebaseWrites_active : (silent .locked 0).cfg.InRange ∧
    (Calm (silent .locked 0) ∧ ReachesRegion (silent .locked 0) (at0 15) (globalIdx 15) ∧
      (silent .locked 0).cfg.refs[0].enable = true ∧ (silent .locked 0).time.active = some 0 ∧
      ∀ q : RefId, q ≠ 0 → usable (silent .locked 0) q = false) :=
  ⟨⟨by decide, by unfold WindowCfg.InRange; decide, by unfold QueueCfg.InRange; decide, by decide, by decide, by decide,
    by decide, by unfold Cfg.SettingsInRange; repeat' apply And.intro
                  all_goals decide⟩,
    by unfold Calm ReachesRegion; decide⟩

/-- The same with a holdover limit of 0, and point 50 not RISING. -/
theorem witness_TimebaseWrites_free :
    ∃ s : State, s = { silent .locked 0 with cfg := { (silent .locked 0).cfg with holdoverLimit := 0 } } ∧ Calm s ∧
      ReachesRegion s (at0 15) (globalIdx 15) ∧ s.time.loop = .locked ∧ s.points[(50 : PointId)].state ≠ .rising ∧
      (silent .locked 0).cfg.holdoverLimit ≠ 0 :=
  ⟨_, rfl, by unfold Calm ReachesRegion; decide⟩

/-- R114: disabling the last reference with a limit of 0 is an event of point 50. -/
theorem test_referenceEnableWrite_free :
    (after (.referenceEnableWrite (at0 15) 0 false)
      { silent .locked 0 with cfg := { (silent .locked 0).cfg with holdoverLimit := 0 } }).points[(50 : PointId)].count = 1 := by
  decide

/-- Both references usable, A the active one of the same priority: a write that disables A, one that outranks it, and ones that
leave it active. -/
theorem witness_TimebaseWrites_displaces :
    (∃ s : State, ReachesRegion s (at0 15) (globalIdx 15) ∧ ReachesRegion s (at0 17) (globalIdx 17) ∧
      s.time.active = some 0 ∧ s.cfg.refs[0].enable = true ∧
      (after (.referenceEnableWrite (at0 15) 0 false) s).time.active = some 1 ∧
      (after (.referencePriorityWrite (at0 17) 1 2#2) s).time.active = some 1 ∧
      (after (.referenceEnableWrite (at0 17) 1 true) s).time.active = some 0 ∧
      (after (.referencePriorityWrite (at0 17) 1 1#2) s).time.active = some 0) :=
  ⟨{ (rival 1 none).modRef 0 (fun f => { f with qualified := true }) with
      time := { (rival 1 none).time with active := some 0 } }, by unfold ReachesRegion; decide⟩

theorem test_referenceEnableWrite : (after (.referenceEnableWrite (at0 17) 1 true) card).cfg.refs[1].enable = true ∧
    (after (.referenceEnableWrite (at0 15) 0 false) (silent .locked 0)).time.active = none := by decide

theorem test_referencePriorityWrite : (after (.referencePriorityWrite (at0 15) 0 3#2) card).cfg.refs[0].priority = 3 := by decide

theorem test_secondsLoad :
    (after (.secondsLoad (at0 5)) { card with cfg := { card.cfg with secondsHigh := 1, secondsLow := 2 } }).time.load =
      some 4294967298 := by decide

/-! ## Slots, power and admission -/

/-- Slot 0 with a sample due. -/
def sampling (f : Swap → Swap) : State := swap fun w => f { w with sampleDue := true }

theorem witness_SlotLinesAreSampled :
    ((sampling id).swaps[0].sampleDue = true) ∧
    (∃ s : State, Calm s ∧ s.swaps[1].sampleDue = true ∧ s.swaps[1].state = .empty ∧ s.swaps[1].present = false ∧
      s.cfg.presentDebounce ≤ s.swaps[1].presentCount + 1 ∧ s.cfg.slots[1].policy = .manual ∧ s.swaps[1].powerRequest = false) ∧
    (Calm (sampling fun w => { w with presentCount := 49 }) ∧ (sampling fun w => { w with presentCount := 49 }).swaps[0].state ≠ .empty ∧
      (sampling fun w => { w with presentCount := 49 }).swaps[0].present = true ∧
      card.cfg.presentDebounce ≤ (sampling fun w => { w with presentCount := 49 }).swaps[0].presentCount + 1) ∧
    (Calm (sampling fun w => { w with latchCount := 19 }) ∧ card.cfg.latchDebounce ≤ 19 + 1 ∧ card.cfg.drainTimeout ≠ 0 ∧
      (sampling fun w => { w with latchCount := 19 }).swaps[0].latchClosed = true) ∧
    (Calm (sampling fun w => { w with state := .powering, goodCount := 9 }) ∧
      (sampling fun w => { w with state := .powering, goodCount := 9 }).swaps[0].latchClosed = good.latch) ∧
    (linkEnabled (sampling fun w => { w with badCount := 9 }).swaps[0].state = true ∧
      (sampling fun w => { w with badCount := 9 }).swaps[0].latchClosed = good.latch) := by
  refine ⟨by decide, ⟨card.modSwap 1 fun w => { w with sampleDue := true, presentCount := 49 }, by unfold Calm; decide⟩, ?_⟩
  unfold Calm; decide

/-- A LATCH that closes: on a slot the latch quiesced, and on one it turned off, which is not ready for power. -/
theorem witness_SlotLinesAreSampled_closing :
    (Calm (sampling fun w => { w with state := .quiescing, reason := .latch, latchClosed := false, latchCount := 19 }) ∧
      NoAlarmSub (sampling fun w => { w with state := .quiescing, reason := .latch, latchClosed := false, latchCount := 19 }) ∧
      card.adm[0].shed = false ∧ good.present = card.swaps[0].present ∧ good.fault = false) ∧
    (∃ s : State, Calm s ∧ s.swaps[0].sampleDue = true ∧ s.swaps[0].state = .off ∧ s.swaps[0].reason = .latch ∧
      s.swaps[0].latchClosed = false ∧ s.cfg.latchDebounce ≤ s.swaps[0].latchCount + 1 ∧ s.cfg.slots[0].policy = .manual ∧
      s.swaps[0].powerRequest = false ∧ s.swaps[0].present = true ∧ NoAlarmSub s) := by
  refine ⟨by unfold Calm NoAlarmSub; decide,
    ⟨{ sampling fun w => { w with state := .off, reason := .latch, latchClosed := false, latchCount := 19 } with
        cfg := { card.cfg with slots := card.cfg.slots.set 0 { card.cfg.slots[0] with policy := .manual } } },
      by unfold Calm NoAlarmSub; decide⟩⟩

/-- A latch that opens: on an ACTIVE slot with both timers 0, on one in LINKING, and on one in POWERING short of its tenth good
PGOOD; a latch that closes on a slot of policy AUTO in OFF(LATCH), which is then ready for power. -/
theorem witness_SlotLinesAreSampled_opening :
    (∃ s : State, Calm s ∧ s.swaps[0].sampleDue = true ∧ s.swaps[0].latchClosed = true ∧
      s.cfg.latchDebounce ≤ s.swaps[0].latchCount + 1 ∧ s.swaps[0].state = .active ∧ NoAlarmSub s ∧
      changesFromQuiescing (latchSampled s 0 { good with latch := false }) 0 .latch =
        [(.quiescing, .latch), (.fenced, .latch), (.off, .latch)]) ∧
    (Calm (sampling fun w => { w with state := .linking, latchCount := 19 }) ∧
      Calm (sampling fun w => { w with state := .powering, latchCount := 19, goodCount := 8 })) ∧
    (Calm (sampling fun w => { w with state := .off, reason := .latch, latchClosed := false, latchCount := 19 }) ∧
      changesFromSeated
          (latchSampled (sampling fun w => { w with state := .off, reason := .latch, latchClosed := false, latchCount := 19 }) 0
            good) 0 false 0 =
        [(.seated, .noReason), (.powering, .noReason)]) := by
  refine ⟨⟨{ sampling fun w => { w with latchCount := 19 } with
      cfg := { card.cfg with drainTimeout := 0, powerDownDelay := 0 } }, ?_⟩, ?_, ?_⟩
  · unfold Calm NoAlarmSub; decide
  all_goals unfold Calm; decide

/-- FAULT sampled on a powered slot; a slot not live loses PRESENT. -/
theorem witness_SlotLinesAreSampled_fault :
    (Calm (sampling id) ∧ powered (sampling id).swaps[0].state = true ∧
      ({ good with fault := true } : Lines).present = (sampling id).swaps[0].present ∧ NoAlarmSub (sampling id)) ∧
    (Calm (sampling fun w => { w with state := .off, presentCount := 49, reason := .command }) ∧
      live (sampling fun w => { w with state := .off }) 0 = false) := by
  unfold Calm NoAlarmSub; decide

/-- R141: the latch that closes gives the slot back. -/
theorem test_latchDebounced_closes :
    (after (.latchDebounced 0 good)
      (sampling fun w => { w with state := .quiescing, reason := .latch, latchClosed := false, latchCount := 19 })).swaps[0].state =
      .active := by decide

/-- R142: FAULT faults a powered slot. -/
theorem test_slotLineSample_fault :
    (after (.slotLineSample 0 { good with fault := true }) (sampling id)).swaps[0].reason = .overcurrent := by decide

theorem test_slotLineSample : (after (.slotLineSample 0 good) (sampling id)).swaps[0].sampleDue = false ∧
    (after (.slotLineSample 0 { good with pgood := false }) (sampling id)).swaps[0].badCount = 1 := by decide

/-- R127: the 50th sample in a row that differs. -/
theorem test_presentDebounced :
    (after (.presentDebounced 0 { good with present := false }) (sampling fun w => { w with presentCount := 49 })).swaps[0].state =
      .empty ∧
    (after (.presentDebounced 0 { good with present := false }) (sampling fun w => { w with presentCount := 48 })).swaps[0].state =
      .active := by decide

theorem test_latchDebounced :
    (after (.latchDebounced 0 { good with latch := false }) (sampling fun w => { w with latchCount := 19 })).swaps[0].state =
      .quiescing ∧
    (after (.latchDebounced 0 { good with latch := false }) (sampling fun w => { w with latchCount := 19 })).swaps[0].stateTimer =
      some 500 := by decide

theorem test_pgoodSteady :
    (after (.pgoodSteady 0 good) (sampling fun w => { w with state := .powering, goodCount := 9 })).swaps[0].state = .linking := by
  decide

theorem test_pgoodLost :
    (after (.pgoodLost 0 { good with pgood := false }) (sampling fun w => { w with badCount := 9 })).swaps[0].reason =
      .powerLost := by decide

theorem witness_SwapTimersAndFence :
    (Calm (swap fun w => { w with state := .powering, stateTimer := some 0 }) ∧
      (swap fun w => { w with state := .powering, stateTimer := some 0 }).swaps[0].stateTimer = some 0) ∧
    Calm (swap fun w => { w with state := .linking, stateTimer := some 0 }) ∧
    (Calm (swap fun w => { w with realign := some 0 }) ∧ live (swap fun w => { w with realign := some 0 }) 0 = true) ∧
    (Calm (swap fun w => { w with state := .quiescing, stateTimer := some 0 }) ∧ card.cfg.powerDownDelay ≠ 0) ∧
    (Calm (swap fun w => { w with state := .fenced, stateTimer := some 0, reason := .shed, latchClosed := false }) ∧
      powerReady (swap fun w => { w with state := .fenced, latchClosed := false }) 0 = false) ∧
    (Calm (swap fun w => { w with state := .faulted, stateTimer := some 0, latchClosed := false, retry := 3 }) ∧
      powerReady (swap fun w => { w with state := .faulted, latchClosed := false }) 0 = false ∧
      card.cfg.slots[0].policy ≠ .disabled) ∧
    (Calm (asking .readyToFence) ∧ (asking .readyToFence).links[0].buffer = [.readyToFence] ∧
      (asking .readyToFence).swaps[0].state ≠ .quiescing) ∧
    (Calm ((asking .readyToFence).modSwap 0 fun w => { w with state := .quiescing }) ∧ NoAlarmSub (asking .readyToFence)) := by
  unfold Calm NoAlarmSub; decide

/-- The backoff's end at the retry limit, and a queue of a slot that is live and of one that is not. -/
theorem witness_SwapTimersAndFence_queues :
    (¬ (3 < card.cfg.retryLimit) ∧ 2 < card.cfg.retryLimit) ∧
    (live (ring 0 0 .readyToFence) 0 = true ∧ (ring 0 0 .readyToFence).queues[0].state = .opened ∧
      rig.cfg.queues[0].producer = 0) ∧ NoAlarmSub (ring 0 0 .readyToFence) := by
  unfold NoAlarmSub; decide

/-- `card` with slot 0 in this state and its state timer at its end, with this power-down delay and this policy for slot 0. -/
def leaving (st : SwapState) (cause : Reason) (delay : Nat) (policy : Policy) (latch : Bool) : State :=
  { swap fun w => { w with state := st, reason := cause, stateTimer := some 0, latchClosed := latch, powerRequest := true,
                           retry := 2 } with
    cfg := { card.cfg with powerDownDelay := delay,
                           slots := card.cfg.slots.set 0 { card.cfg.slots[0] with policy := policy } } }

/-- FENCED by the latch with the latch open and closed, by the policy with DISABLED in force and not; a fence with a power-down
delay of 0; a backoff of a slot that is ready for power, and one of a disabled slot. -/
theorem witness_SwapTimersAndFence_releases :
    (Calm (leaving .fenced .latch 5 .auto false) ∧
      changesFromOff (leaving .fenced .latch 5 .auto false) 0 .latch = [(.off, .latch)]) ∧
    (Calm (leaving .fenced .latch 5 .manual true) ∧
      changesFromOff (leaving .fenced .latch 5 .manual true) 0 .latch = [(.off, .latch), (.seated, .noReason)]) ∧
    (Calm (leaving .fenced .policy 5 .disabled true) ∧
      changesFromOff (leaving .fenced .policy 5 .disabled true) 0 .policy = [(.off, .policy)]) ∧
    (Calm (leaving .fenced .policy 5 .auto true) ∧
      changesFromOff (leaving .fenced .policy 5 .auto true) 0 .policy =
        [(.off, .policy), (.seated, .noReason), (.powering, .noReason)]) ∧
    (Calm (leaving .quiescing .command 0 .auto true) ∧
      changesFromFenced (leaving .quiescing .command 0 .auto true) 0 .command = [(.fenced, .command), (.off, .command)]) ∧
    (Calm (leaving .faulted .ramp 5 .manual true) ∧
      changesFromSeated (leaving .faulted .ramp 5 .manual true) 0 true 0 = [(.seated, .noReason), (.powering, .noReason)]) ∧
    (Calm (leaving .faulted .ramp 5 .disabled true) ∧
      changesFromSeated (leaving .faulted .ramp 5 .disabled true) 0 true 0 = [(.seated, .noReason), (.off, .policy)]) := by
  unfold Calm; decide

/-- R137, R139, R141: with a power-down delay of 0 the drain's end takes a slot quiesced by a policy since undone to OFF and
back to SEATED, where R134 powers it; a slot the latch quiesced waits in OFF(LATCH) for the latch. -/
theorem test_drainTimerExpiry_passes :
    (after (.drainTimerExpiry 0) (leaving .quiescing .policy 0 .auto true)).swaps[0].state = .powering ∧
    (after (.drainTimerExpiry 0) (leaving .quiescing .latch 0 .auto false)).swaps[0].state = .off := by decide

theorem test_rampTimerExpiry :
    (after (.rampTimerExpiry 0) (swap fun w => { w with state := .powering, stateTimer := some 0 })).swaps[0].reason = .ramp ∧
    (after (.rampTimerExpiry 0) (swap fun w => { w with state := .powering, stateTimer := some 1 })).swaps[0].state = .powering := by
  decide

theorem test_linkTimerExpiry :
    (after (.linkTimerExpiry 0) (swap fun w => { w with state := .linking, stateTimer := some 0, retry := 7 })).swaps[0].retry = 7 := by
  decide

theorem test_drainTimerExpiry :
    (after (.drainTimerExpiry 0) (swap fun w => { w with state := .quiescing, stateTimer := some 0 })).links[0].state = .fenced := by
  decide

theorem test_powerDownTimerExpiry :
    (after (.powerDownTimerExpiry 0)
      (swap fun w => { w with state := .fenced, stateTimer := some 0, reason := .command })).swaps[0].readyLit = true := by decide

theorem test_realignLimitExpiry :
    (after (.realignLimitExpiry 0) (swap fun w => { w with realign := some 0 })).swaps[0].reason = .linkLost := by decide

/-- R143: with the retry count at the limit of 3 the slot locks out. -/
theorem test_backoffTimerExpiry :
    (after (.backoffTimerExpiry 0)
      (swap fun w => { w with state := .faulted, stateTimer := some 0, latchClosed := false, retry := 3 })).swaps[0].state =
      .lockedOut ∧
    (after (.backoffTimerExpiry 0)
      (swap fun w => { w with state := .faulted, stateTimer := some 0, latchClosed := false, retry := 2 })).swaps[0].state =
      .seated := by decide

theorem test_readyToFenceTaken :
    (after (.readyToFenceTaken 0) ((asking .readyToFence).modSwap 0 fun w => { w with state := .quiescing })).swaps[0].state =
      .fenced := by decide

/-- Slots 0 and 1 both candidates, slot 0 of this draw and state, the budget 10 W. -/
def queueing (draw : Nat) (st : SwapState) (cause : Reason) : State :=
  { (swap fun w => { w with state := st, reason := cause }).modSwap 1 (fun w =>
      { w with state := .seated, latchClosed := true, present := true, powerRequest := true }) with
    cfg := { card.cfg with mains := 10, slots := card.cfg.slots.set 0 { card.cfg.slots[0] with draw := draw } } }

/-- Slot 0 ranks before slot 1 by its number; its draw is the whole budget, from SEATED and from OFF(SHED). -/
theorem witness_HeadIsAdmitted :
    (∀ p : PointId, card.cfg.points[p].shedTrigger = false) ∧
    ((candidate (queueing 10 .seated .noReason) 0 = true ∧ candidate (queueing 10 .seated .noReason) 1 = true) ∧
      (∀ m : SlotId, m ≠ 0 → RanksBefore (queueing 10 .seated .noReason) 0 m) ∧
      (∀ m : SlotId, (queueing 10 .seated .noReason).swaps[m].state ≠ .powering) ∧
      committedTotal (queueing 10 .seated .noReason) + 10 = budgetInForce (queueing 10 .seated .noReason)) ∧
    (candidate (queueing 10 .off .shed) 0 = true ∧
      committedTotal (queueing 10 .off .shed) + 10 = budgetInForce (queueing 10 .off .shed) ∧
      (∀ m : SlotId, (queueing 10 .off .shed).swaps[m].state ≠ .powering) ∧ NoAlarmSub (queueing 10 .off .shed)) := by
  unfold RanksBefore NoAlarmSub; decide

/-- One watt too many, and another slot in POWERING. -/
theorem witness_HeadIsAdmitted_waits :
    (candidate (queueing 11 .seated .noReason) 0 = true ∧
      budgetInForce (queueing 11 .seated .noReason) < committedTotal (queueing 11 .seated .noReason) + 11) ∧
    (candidate ((queueing 10 .seated .noReason).modSwap 2 fun w => { w with state := .powering }) 0 = true ∧
      ((queueing 10 .seated .noReason).modSwap 2 fun w => { w with state := .powering }).swaps[2].state = .powering) := by decide

/-- POWER_ON of slot 1, MANUAL and SEATED; PGOOD steady at slot 0 in POWERING while slot 1 is a candidate. -/
theorem witness_HeadIsAdmitted_events :
    (∃ s : State, ReachesRegion s (at0 70) (slotIdx 1 2) ∧ s.swaps[1].state = .seated ∧ s.swaps[1].latchClosed = true ∧
      s.startUp = none ∧ s.cfg.slots[1].policy = .manual ∧ (∀ m : SlotId, m ≠ 1 → candidate s m = false) ∧
      (∀ m : SlotId, s.swaps[m].state ≠ .powering) ∧ committedTotal s + s.cfg.slots[1].draw ≤ budgetInForce s ∧
      ∀ p : PointId, s.cfg.points[p].shedTrigger = false) ∧
    (∃ s : State, s.swaps[0].sampleDue = true ∧ s.swaps[0].present = true ∧ s.swaps[0].latchClosed = true ∧
      s.swaps[0].state = .powering ∧ 9 ≤ s.swaps[0].goodCount ∧ (∀ m : SlotId, m ≠ 0 → s.swaps[m].state ≠ .powering) ∧
      candidate s 1 = true ∧ (∀ m : SlotId, m ≠ 1 → candidate s m = false) ∧
      committedTotal s + s.cfg.slots[1].draw ≤ budgetInForce s ∧ ∀ p : PointId, s.cfg.points[p].shedTrigger = false) := by
  refine ⟨⟨{ card.modSwap 1 (fun w => { w with state := .seated, latchClosed := true, present := true }) with
      cfg := { card.cfg with slots := card.cfg.slots.set 1 { card.cfg.slots[1] with policy := .manual } } },
      by unfold ReachesRegion; decide⟩,
    ⟨(queueing 10 .powering .noReason).modSwap 0 fun w => { w with sampleDue := true, goodCount := 9 }, by decide⟩⟩

/-- R153: the PGOOD that ends slot 0's ramp admits slot 1. -/
theorem test_pgoodSteady_admits :
    (after (.pgoodSteady 0 good)
      ((queueing 10 .powering .noReason).modSwap 0 fun w => { w with sampleDue := true, goodCount := 9 })).swaps[1].state =
      .powering := by decide

theorem test_admitHead : (after .admitHead (swap fun w => { w with state := .seated, pwrEn := false })).swaps[0].pwrEn = true ∧
    (after .admitHead (swap fun w => { w with state := .seated })).swaps[0].stateTimer = some 200 := by decide

theorem test_readmitHead :
    (after .readmitHead (swap fun w => { w with state := .off, reason := .shed })).swaps[0].state = .powering ∧
    (after .readmitHead (swap fun w => { w with state := .off, reason := .command })).swaps[0].state = .off := by decide

theorem witness_SlotCommands :
    (Calm card ∧ ReachesRegion card (at0 66) (slotIdx 0 2) ∧ card.swaps[0].state ≠ .off ∧ card.swaps[0].state ≠ .seated ∧
      card.swaps[0].state = .active ∧ card.cfg.drainTimeout ≠ 0) ∧
    (Calm (swap fun w => { w with state := .seated, latchClosed := false })) ∧
    (Calm (swap fun w => { w with state := .off, reason := .command })) ∧
    (Calm (swap fun w => { w with state := .lockedOut, latchClosed := false }) ∧
      powerReady (swap fun w => { w with state := .lockedOut, latchClosed := false }) 0 = false ∧
      card.cfg.slots[0].policy ≠ .disabled) := by
  unfold Calm ReachesRegion; decide

/-- Each state with a command of its own, and timers of 0. -/
theorem witness_SlotCommands_states :
    (∀ st ∈ [SwapState.empty, .powering, .linking, .active, .quiescing, .fenced, .faulted, .lockedOut],
      Calm (swap fun w => { w with state := st })) ∧
    (∀ r ∈ [Reason.command, .latch, .policy, .shed], Calm (swap fun w => { w with state := .off, reason := r, latchClosed := false })) ∧
    (ReachesRegion (swap fun w => { w with state := .lockedOut }) (at0 66) (slotIdx 0 2) ∧
      Calm (leaving .off .command 0 .manual true) ∧
      changesFromSeated (withRequest (leaving .off .command 0 .manual true) 0 true) 0 true 0 =
        [(.seated, .noReason), (.powering, .noReason)]) ∧
    (Calm { swap (fun w => { w with state := .off, reason := .shed }) with
        cfg := { card.cfg with slots := card.cfg.slots.set 0 { card.cfg.slots[0] with policy := .manual } } } ∧
      Calm { swap (fun w => { w with state := .seated }) with
        cfg := { card.cfg with slots := card.cfg.slots.set 0 { card.cfg.slots[0] with policy := .manual } } }) := by
  unfold Calm ReachesRegion; decide

theorem test_powerOn : (after (.powerOn (at0 66) 0) card).swaps[0].powerRequest = true ∧
    (after (.powerOn (at0 70) 1) (card.modSwap 1 fun w => { w with state := .off, reason := .command })).swaps[1].state =
      .seated := by decide

theorem test_removeSlot : (after (.removeSlot (at0 66) 0) card).swaps[0].reason = .command ∧
    (after (.removeSlot (at0 66) 0) (swap fun w => { w with state := .faulted })).swaps[0].state = .off := by decide

theorem test_clearLockout :
    (after (.clearLockout (at0 66) 0) (swap fun w => { w with state := .lockedOut, latchClosed := false, retry := 7 })).swaps[0].retry =
      0 := by decide

theorem witness_SlotRecordWrites : card.cfg.InRange ∧ ReachesRegion card (at0 64) (slotIdx 0 0) ∧ Calm card ∧
    ReachesRegion card (at0 9) (globalIdx 9) :=
  ⟨card_cfg_inRange, by unfold ReachesRegion Calm; decide⟩

/-- A write of DISABLED over each state; one of AUTO over DISABLED in OFF(POLICY), and over MANUAL in SEATED and OFF(SHED),
which makes the slot ready for power. -/
theorem witness_SlotRecordWrites_policy :
    (∀ st ∈ [SwapState.empty, .powering, .linking, .active, .quiescing, .fenced, .faulted, .lockedOut],
      Calm (swap fun w => { w with state := st })) ∧
    Calm (swap fun w => { w with state := .seated, latchClosed := false }) ∧
    (Calm (leaving .off .policy 5 .disabled true) ∧
      changesFromSeated { leaving .off .policy 5 .disabled true with cfg := card.cfg } 0 true 0 =
        [(.seated, .noReason), (.powering, .noReason)]) ∧
    (∀ st ∈ [SwapState.seated, .off], Calm (leaving st .shed 5 .disabled true) ∧
      mayPower { leaving st .shed 5 .disabled true with cfg := card.cfg } 0 true 0 = true) := by
  unfold Calm; decide

/-- R136, R141: DISABLED quiesces an ACTIVE slot with the cause POLICY, and AUTO releases OFF(POLICY). -/
theorem test_slotPolicyWrite_acts :
    (after (.slotPolicyWrite (at0 64) 0 2#2) card).swaps[0].reason = .policy ∧
    (after (.slotPolicyWrite (at0 64) 0 0#2) (leaving .off .policy 5 .disabled false)).swaps[0].state = .seated := by decide

/-- Slots 0 to 3 draw 10 W each, in ACTIVE, POWERING, LINKING and QUIESCING. -/
def drawing : State :=
  { (((card.modSwap 1 fun w => { w with state := .powering }).modSwap 2 fun w => { w with state := .linking }).modSwap 3
      fun w => { w with state := .quiescing, reason := .command }) with
    adm := (((card.adm.set 0 { draw := 10, shed := false }).set 1 { draw := 10, shed := false }).set 2
      { draw := 10, shed := false }).set 3 { draw := 10, shed := false } }

/-- A budget of 40 W marks none of them, one of 39 W the last, and one of 9 W all. -/
theorem witness_SlotRecordWrites_shedding :
    (Calm drawing ∧ drawing.cfg.drainTimeout ≠ 0 ∧ ReachesRegion drawing (at0 9) (globalIdx 9) ∧ drawing.onBattery = false) ∧
    (∀ n : SlotId, ¬ Marked drawing 40 n) ∧ (∀ n : SlotId, Marked drawing 39 n ↔ n = 3) ∧
    (∀ n : SlotId, Marked drawing 9 n ↔ n < 4) := by
  unfold Calm ReachesRegion Marked; decide

/-- R155, R156: a mains budget of 9 W quiesces the ACTIVE slot and turns off the one in LINKING. -/
theorem test_budgetWrite_sheds : (after (.budgetWrite (at0 9) (.mains 9#16)) drawing).swaps[0].state = .quiescing ∧
    (after (.budgetWrite (at0 9) (.mains 9#16)) drawing).swaps[2].state = .off := by decide

theorem test_slotPolicyWrite : (after (.slotPolicyWrite (at0 64) 0 1#2) card).cfg.slots[0].policy = .manual ∧
    (after (.slotPolicyWrite (at0 64) 0 3#2) card).cfg.slots[0].policy = .auto := by decide

theorem test_slotDrawWrite : (after (.slotDrawWrite (at0 64) 0 1023#10) card).cfg.slots[0].draw = 1023 ∧
    (after (.slotDrawWrite (at0 64) 0 1023#10) card).cfg.slots[0].policy = .auto := by decide

theorem test_shedPriorityWrite : (after (.shedPriorityWrite (at0 64) 0 7#3) card).cfg.slots[0].shedPriority = 7 := by decide

/-- R190: the last control right cannot be cleared. -/
theorem test_controlRightWrite : (after (.controlRightWrite (at0 64) 0 false) card).cfg.slots[0].right = true ∧
    (after (.controlRightWrite (at0 68) 1 true) card).cfg.slots[1].right = true := by decide

theorem test_budgetWrite : (after (.budgetWrite (at0 9) (.mains 5000#16)) card).cfg.mains = 4095 ∧
    (after (.budgetWrite (at0 9) (.battery 12#16)) card).cfg.battery = 12 := by decide

/-! ## Alarm points, relays and inputs -/

/-- `card` with point 0 changed. -/
def point (f : Point → Point) : State := card.modPoint 0 f

theorem witness_PointDebouncesEnd :
    (Calm (point fun p => { p with state := .rising, timer := some 0 }) ∧
      isEvent (point fun p => { p with state := .rising, timer := some 0 }) 0 = false ∧
      (point fun p => { p with state := .rising, timer := some 0 }).points[0].timer = some 0) ∧
    (Calm (point fun p => { p with state := .falling, timer := some 0 }) ∧
      (point fun p => { p with state := .falling, timer := some 0 }).points[0].state = .falling) := by
  unfold Calm; decide

/-- Every state of an enabled level point, with its condition present and absent. -/
theorem witness_PointDebouncesEnd_levels :
    (∀ st ∈ [PointState.clear, .rising, .raised, .falling], ∀ b ∈ [false, true],
      isEvent (point fun p => { p with state := st, cond := b }) 0 = false ∧
      (point fun p => { p with state := st, cond := b }).points[0].cond = b) ∧
    card.cfg.points[0].enable = true := by decide

/-- A report that loses nothing: with no log, with room for one record, and with 31 entries on the receiver's list. -/
theorem witness_PointDebouncesEnd_reports :
    (LosesNothing (point fun p => { p with state := .rising, timer := some 0 }) 0 ∧ card.cfg.logCode = 0) ∧
    (∃ s : State, Calm s ∧ isEvent s 0 = false ∧ s.points[0].timer = some 0 ∧ s.points[0].state = .falling ∧ s.cfg.logCode = 4 ∧
      index16 s.log.accept s.cfg.logRead = 15 ∧ live s 0 = true ∧ s.cfg.slots[0].alarmSub = true ∧
      s.lists[0].entries.length = 31 ∧ LosesNothing s 0) := by
  refine ⟨by unfold LosesNothing TakesNotice; decide,
    ⟨{ (listed 31).modPoint 0 (fun p => { p with state := .falling, timer := some 0 }) with
        cfg := { card.cfg with logCode := 4, logBase := 0x8000,
                               slots := card.cfg.slots.set 0 { card.cfg.slots[0] with alarmSub := true } }
        log := { accept := 15, write := 15, lost := 0, queue := [] } },
      by unfold Calm; decide, by decide, by decide, by decide, by decide, by decide, by decide, by decide, by decide,
      fun m hm hs => Or.inr (Or.inr ?_), by decide⟩⟩
  exact (by decide : ∀ m : SlotId, (listed 31).lists[m].entries.length < 32) m

/-- `drawing` with point 24 alone marked, in this state with its debounce at an end, and budgets that mark one slot. -/
def shedding (st : PointState) : State :=
  { (drawing.modPoint 24 fun p => { p with state := st, timer := some 0, cond := true }) with
      cfg := { drawing.cfg with
        points := drawing.cfg.points.set 24 { drawing.cfg.points[24] with shedTrigger := true }
        battery := 39, mains := 9, drainTimeout := 5 } }

theorem witness_PointDebouncesEnd_shed : ∀ st ∈ [PointState.rising, .falling],
    (∀ n : SlotId, candidate (shedding st) n = false) ∧ isEvent (shedding st) 24 = false ∧
    (shedding st).points[24].timer = some 0 ∧ (shedding st).cfg.points[24].shedTrigger = true ∧
    (∀ q : PointId, q ≠ 24 → (shedding st).cfg.points[q].shedTrigger = false) ∧ (shedding st).cfg.drainTimeout ≠ 0 ∧
    ShedKeeps (shedding st) 39 24 ∧ ShedKeeps (shedding st) 9 24 ∧ NoAlarmSub (shedding st) ∧
    (∀ n : SlotId, Marked (shedding st) 39 n ↔ n = 3) ∧ ∀ n : SlotId, Marked (shedding st) 9 n ↔ n < 4 := by
  unfold ShedKeeps Marked NoAlarmSub; decide

/-- R149, R156: the raise of the marked point puts the battery budget of 39 W in force, which takes slot 3 with SHED as its
cause. -/
theorem test_raiseDebounceExpiry_sheds : (after (.raiseDebounceExpiry 24) (shedding .rising)).onBattery = true ∧
    (after (.raiseDebounceExpiry 24) (shedding .rising)).swaps[3].reason = .shed := by decide

theorem test_raiseDebounceExpiry :
    (after (.raiseDebounceExpiry 0) (point fun p => { p with state := .rising, timer := some 0, count := 65535 })).points[0] =
      { state := .raised, acked := false, count := 65535, timer := none, cond := false } := by decide

theorem test_clearDebounceExpiry :
    (after (.clearDebounceExpiry 0) (point fun p => { p with state := .falling, timer := some 0, acked := true })).points[0] =
      { state := .clear, acked := false, count := 0, timer := none, cond := false } := by decide

theorem witness_AckActsOnPoints :
    (Calm (point fun p => { p with state := .raised }) ∧ ReachesRegion (point fun p => { p with state := .raised }) (at0 1) (globalIdx 1)) ∧
    (∀ m : SlotId, live card m = true → card.cfg.slots[m].alarmSub = false) ∧ card.cfg.logCode = 0 ∧
    (58 ≤ (58#8).toNat ∧ (BitVec.ofNat 8 57).toNat = 57) := by
  unfold Calm ReachesRegion; decide

/-- Point 57 RAISED over a log of 16 records with `room` places left, `lost` records lost. -/
def overrun (room lost : Nat) : State :=
  { (card.modPoint 57 fun p => { p with state := .raised, count := 1 }) with
    cfg := { card.cfg with logCode := 4, logBase := 0x8000 }
    log := { accept := 16 - room, write := 16 - room, lost := lost, queue := [] } }

/-- An acknowledgement of point 57 that clears it hands two records: there is room for both, for one, for none, and for the two
but not for the LOST record ahead of them. -/
theorem witness_AckActsOnPoints_log :
    (∀ room ∈ [0, 1, 2], Calm (overrun room 0) ∧ ReachesRegion (overrun room 0) (at0 1) (globalIdx 1) ∧
      (ackRecords (overrun room 0) 57).length = 2 ∧ (ackedPoint (overrun room 0) 57).state = .clear ∧
      dropsOneOf (overrun room 0) 2 = decide (room < 2)) ∧
    (dropsOneOf (overrun 2 1) 2 = true ∧ dropsOneOf (overrun 3 1) 2 = false) ∧
    ((overrun 0 0).cfg.logCode ≤ 12 ∧ (overrun 0 0).cfg.points[57].enable = true) ∧
    (∀ m : SlotId, live (overrun 0 0) m = true → (overrun 0 0).cfg.slots[m].alarmSub = false) := by
  unfold Calm ReachesRegion; decide

/-- R164, R183: with room for both records point 57 is CLEAR; with room for one it is raised again. -/
theorem test_ackPoint_log :
    (after (.ackPoint (at0 1) 57#8) (overrun 2 0)).points[57].state = .clear ∧
    (after (.ackPoint (at0 1) 57#8) (overrun 1 0)).points[57].count = 2 := by decide

/-- R164: an active point is acknowledged; 58 names no point. -/
theorem test_ackPoint :
    (after (.ackPoint (at0 1) 0#8) (point fun p => { p with state := .raised, cond := true })).points[0].acked = true ∧
    (after (.ackPoint (at0 1) 58#8) (point fun p => { p with state := .raised, cond := true })).points[0].acked = false := by decide

/-- R164: the points the command word names: all, one, none. -/
theorem test_ackAll : ackedPoints (pack [(8, 1), (31, 1)]) = List.finRange 58 ∧ ackedPoints (pack [(0, 57), (31, 1)]) = [57] ∧
    ackedPoints (pack [(0, 58), (31, 1)]) = [] := by decide

theorem witness_PointRecordWrites : ReachesRegion card (at0 0x340) (pointIdx 0 0) ∧ Calm (point fun p => { p with state := .raised }) ∧
    ReachesRegion (point fun p => { p with state := .raised }) (at0 0x340) (pointIdx 0 0) ∧
    (point fun p => { p with state := .raised }).cfg.points[0].enable = true := by
  unfold ReachesRegion Calm; decide

/-- A level point and an event point enabled, made unlatched with the condition present and absent, and written elsewhere. -/
theorem witness_PointRecordWrites_acts :
    (∀ b ∈ [false, true], Calm { point (fun p => { p with cond := b }) with
        cfg := { card.cfg with points := card.cfg.points.set 0 { card.cfg.points[0] with enable := false } } } ∧
      Calm { point (fun p => { p with cond := b, state := .raised }) with
        cfg := { card.cfg with points := card.cfg.points.set 0 { card.cfg.points[0] with latched := true } } }) ∧
    (isEvent card 0 = false ∧ isEvent card 56 = true ∧ card.cfg.points[56].enable = true ∧
      ReachesRegion card (at0 (0x340 + 2 * 56)) (pointIdx 56 0) ∧ ReachesRegion card (at0 0x340) (pointIdx 0 0)) := by
  unfold Calm ReachesRegion; decide

/-- The mark set on an active point and cleared from one, the only one marked; budgets that mark an ACTIVE slot alone, and
none. -/
theorem witness_PointRecordWrites_shed :
    (∀ st ∈ [PointState.raised, .falling], ∀ old ∈ [false, true], ∃ s : State,
      ReachesRegion s (at0 (0x340 + 2 * 24)) (pointIdx 24 0) ∧ s.points[24].state = st ∧
      (∀ n : SlotId, candidate s n = false) ∧ (∀ q : PointId, q ≠ 24 → s.cfg.points[q].shedTrigger = false) ∧
      s.cfg.drainTimeout ≠ 0 ∧ s.cfg.points[24].shedTrigger = old ∧ ShedKeeps s s.cfg.battery 24 ∧ NoAlarmSub s ∧
      (∀ n : SlotId, Marked s s.cfg.battery n ↔ n = 0) ∧ s.swaps[0].state = .active ∧
      ∀ n : SlotId, ¬ Marked s s.cfg.mains n) :=
  fun st hs old ho => ⟨{ (card.modPoint 24 fun p => { p with state := st, cond := true }) with
      adm := card.adm.set 0 { draw := 10, shed := false }
      cfg := { card.cfg with
        points := card.cfg.points.set 24 { card.cfg.points[24] with shedTrigger := old }, battery := 9 } },
    by revert st old; unfold ReachesRegion ShedKeeps Marked NoAlarmSub; decide⟩

/-- R165: a point enabled with its condition present is RAISED where its raise debounce is 0. -/
theorem test_pointEnableWrite_present :
    (after (.pointEnableWrite (at0 0x340) 0 true)
      { point (fun p => { p with cond := true }) with
        cfg := { card.cfg with points := (card.cfg.points.set 0
          { card.cfg.points[0] with enable := false, raiseDebounce := 0 }) } }).points[0].state = .raised := by decide

theorem test_pointEnableWrite :
    (after (.pointEnableWrite (at0 0x340) 0 false) (point fun p => { p with state := .raised, count := 9 })).points[0] =
      { state := .clear, acked := false, count := 9, timer := none, cond := false } := by decide

theorem test_pointLatchedWrite : (after (.pointLatchedWrite (at0 0x342) 1 true) card).cfg.points[1].latched = true := by decide

theorem test_pointSeverityWrite : (after (.pointSeverityWrite (at0 0x342) 1 0#2) card).cfg.points[1].severity = .critical := by
  decide

theorem test_pointRelayMarksWrite : (after (.pointRelayMarksWrite (at0 0x342) 1 9#4) card).cfg.points[1].relays = 9#4 := by decide

theorem test_pointShedTriggerWrite :
    (after (.pointShedTriggerWrite (at0 0x342) 1 true) (card.modPoint 1 fun p => { p with state := .raised })).onBattery = true := by
  decide

/-- R156: an ACTIVE slot whose draw the battery budget does not hold is quiesced at that write, and told (R64). -/
theorem test_pointShedTriggerWrite_sheds :
    (after (.pointShedTriggerWrite (at0 0x342) 1 true)
      { card.modPoint 1 (fun p => { p with state := .raised }) with
        adm := card.adm.set 0 { draw := 10, shed := false }
        cfg := { card.cfg with battery := 9, drainTimeout := 5 } }).lists[0].entries =
      [{ id := .swap 0, details := .swap .quiescing .shed, count := 1 }] := by decide

theorem witness_RelaysAreForced : Calm card ∧ ReachesRegion card (at0 6) (globalIdx 6) ∧ ReachesRegion card (at0 7) (globalIdx 7) ∧
    ReachesRegion card (at0 8) (globalIdx 8) ∧ ReachesRegion card (at0 37) (globalIdx 37) ∧
    ReachesRegion card (at0 40) (globalIdx 40) := by
  unfold Calm ReachesRegion; decide

theorem test_relayOn : (after (.relayOn (at0 6) 9#4) card).relays[3].energised = true ∧
    (after (.relayOn (at0 6) 9#4) card).relays[1].energised = false := by decide

theorem test_relayOff : (after (.relayOff (at0 7) 1#4) card).relays[0].force = .off := by decide

theorem test_relayFollow : (after (.relayFollow (at0 8) 1#4) (card.modRelay 0 fun r => { r with force := .on })).relays[0].force =
    .follow := by decide

/-- R172: polarity DEENERGISE_ON_ALARM energises a relay in no alarm. R168: mode code 3 names none. -/
theorem test_relayConfigWrite : (after (.relayConfigWrite (at0 37) 0 0#2 3#2 true) card).relays[0].energised = true ∧
    (after (.relayConfigWrite (at0 37) 0 0#2 3#2 true) card).cfg.relays[0].mode = .anyActive := by decide

/-- `card` with every contact's sample due. -/
def contactsDue : State := { card with contactDue := Vector.replicate 8 true }

/-- `contactsDue` with contact 0 in this sense mode and its point enabled. -/
def sensing (mode : SenseMode) : State :=
  { contactsDue with cfg := { card.cfg with
      senses := card.cfg.senses.set 0 mode
      points := card.cfg.points.set 24 { card.cfg.points[24] with enable := true } } }

/-- A sample not due, one that changes nothing, and one that changes contact 0 in each kind of mode. -/
theorem witness_ContactsAreSampled :
    card.contactDue[7] = false ∧ (contactsDue.contactDue[7] = true ∧ Calm contactsDue ∧ contactsDue.contacts[0] = false) ∧
    ((24 : PointId).val = 24 + (0 : ContactId).val ∧ (31 : PointId).val = 24 + (7 : ContactId).val) ∧
    (∀ m ∈ [SenseMode.levelHigh, .levelLow, .rising, .anyEdge],
      (sensing m).cfg.senses[0] = m ∧ (sensing m).cfg.points[24].enable = true ∧ (sensing m).contacts[0] ≠ true) ∧
    ({ sensing .falling with contacts := Vector.replicate 8 true }.contacts[0] ≠ false) ∧
    ReachesRegion card (at0 25) (globalIdx 25) := by
  unfold Calm ReachesRegion; decide

/-- Each pair of an old and a new mode, level and edge, over a RAISED point. -/
theorem witness_ContactsAreSampled_modes :
    (∀ m ∈ [SenseMode.levelHigh, .levelLow, .rising, .falling, .anyEdge],
      Calm ((sensing m).modPoint 24 fun p => { p with state := .raised }) ∧
      ReachesRegion ((sensing m).modPoint 24 fun p => { p with state := .raised }) (at0 25) (globalIdx 25)) ∧
    (edgeMode .levelHigh = false ∧ edgeMode .rising = true) := by
  unfold Calm ReachesRegion; decide

/-- R165: a level point RAISED with an acknowledgement outstanding stays RAISED under an edge mode; back under a level mode its
absent condition lets it fall. -/
theorem test_senseModeWrite_kind :
    (after (.senseModeWrite (at0 25) 0 2#3) ((sensing .levelHigh).modPoint 24 fun p => { p with state := .raised, cond := true })).points[24] =
      { card.points[24] with state := .raised, cond := false } ∧
    (after (.senseModeWrite (at0 25) 0 0#3) ((sensing .anyEdge).modPoint 24 fun p => { p with state := .raised })).points[24].state ≠
      .raised := by decide

theorem test_contactSample : (after (.contactSample { contact := 0, level := true }) contactsDue).points[24].cond = true ∧
    (after (.contactSample { contact := 0, level := true }) (sensing .rising)).points[24].state = .raised := by decide +kernel

theorem test_senseModeWrite : (after (.senseModeWrite (at0 25) 7 4#3) card).cfg.senses[7] = .anyEdge ∧
    (after (.senseModeWrite (at0 25) 7 5#3) card).cfg.senses[7] = .levelHigh := by decide

/-- `card` with channels 0 and 7 enabled and channel 0 in conversion for this many periods. -/
def scanning (periods : Nat) : State :=
  { card with
    cfg := { card.cfg with channels := ((card.cfg.channels.set 0 { low := 0, high := 512, hysteresis := 2, enable := true }).set 7
        { low := 0, high := 512, hysteresis := 2, enable := true }) }
    scan := { card.scan with running := true, converting := some 0, periods := periods, timer := some 0 } }

theorem witness_ConverterPasses :
    ((scanning 0).cfg.channels[0].enable = true ∧ (∀ i : ChannelId, i < 0 → (scanning 0).cfg.channels[i].enable = false) ∧
      (∀ i : ChannelId, card.cfg.channels[i].enable = false) ∧ (scanning 0).scan.timer = some 0 ∧
      ReachesRegion (scanning 0) (at0 2) (globalIdx 2)) ∧
    ((scanning 2500).scan.converting = some 0 ∧ 2500 ≤ (scanning 2500).scan.periods ∧
      ((512 : Nat) : Int) = max 0 (min 1023 ((2048 * (1 : Int) + (2 : Nat)) / (2 * (2 : Nat)))) ∧
      (scanning 2500).cfg.channels[7].enable = true ∧
      ∀ i : ChannelId, 0 < i → i < 7 → (scanning 2500).cfg.channels[i].enable = false) := by
  unfold ReachesRegion; decide

/-- Channel 7, the last one enabled, in conversion with a pass pending: channel 0 is the lowest enabled. -/
def lastChannel (pending : Bool) : State :=
  { scanning 2500 with scan := { (scanning 2500).scan with converting := some 7, pendingPass := pending } }

theorem witness_ConverterPasses_pending :
    ((lastChannel true).scan.converting = some 7 ∧ 2500 ≤ (lastChannel true).scan.periods ∧
      (∀ i : ChannelId, 7 < i → (lastChannel true).cfg.channels[i].enable = false) ∧
      (lastChannel true).scan.pendingPass = true ∧ (lastChannel false).scan.pendingPass = false) ∧
    (LowestEnabled (lastChannel true).cfg (some 0) ∧ LowestEnabled card.cfg none) := by
  unfold LowestEnabled; decide

theorem witness_ConverterPasses_points : Calm (scanning 2500) ∧ Calm (lastChannel true) := by unfold Calm; decide

/-- R178: the pending mark clears and a pass starts at the event that ends one. -/
theorem test_conversionComplete_pending : (after (.conversionComplete 1 2) (lastChannel true)).scan =
    { (lastChannel true).scan with converting := some 0, periods := 0, pendingPass := false } := by decide

theorem test_scanIntervalExpiry : (after .scanIntervalExpiry (scanning 0)).scan.skipped = 1 ∧
    (after .scanIntervalExpiry { card with scan := { card.scan with timer := some 0 } }).scan.running = false := by decide

theorem test_scanNow : (after (.scanNow (at0 2)) (scanning 0)).scan.pendingPass = true := by decide

/-- R176: half the reference gives 512, at the high threshold; R177: channel 7 is next. -/
theorem test_conversionComplete : (after (.conversionComplete 1 2) (scanning 2500)).channels[0] =
      { result := some 512, high := true, low := false } ∧
    (after (.conversionComplete 1 2) (scanning 2500)).scan.converting = some 7 := by decide

theorem witness_ChannelWrites : ReachesRegion (scanning 0) (at0 26) (globalIdx 26) ∧
    ReachesRegion (scanning 0) (at0 33) (globalIdx 33) ∧ (scanning 0).cfg.channels[0].enable = true ∧
    (scanning 0).scan.converting = some 0 ∧ (scanning 0).scan.pendingPass = false := by
  unfold ReachesRegion; decide

theorem witness_ChannelWrites_abandoned :
    (ReachesRegion (lastChannel true) (at0 33) (globalIdx 33) ∧ (lastChannel true).scan.converting = some 7 ∧
      (lastChannel true).scan.pendingPass = true ∧ (lastChannel false).scan.pendingPass = false ∧
      ∀ i : ChannelId, 7 < i → (lastChannel true).cfg.channels[i].enable = false) ∧
    LowestEnabled (after (.channelConfigWrite (at0 33) 7 1#10 2#10 3#8 false) (lastChannel true)).cfg (some 0) := by
  unfold ReachesRegion LowestEnabled; decide

theorem test_channelConfigWrite :
    (after (.channelConfigWrite (at0 26) 0 1#10 1023#10 255#8 false) (scanning 0)).scan.converting = some 7 ∧
    (after (.channelConfigWrite (at0 26) 0 1#10 1023#10 255#8 false) (scanning 0)).cfg.channels[0] =
      { low := 1, high := 1023, hysteresis := 255, enable := false } := by decide

/-! ## Alarm log, control region and resets -/

/-- `card` with a log of 16 records, this many of them unread. -/
def logging (accept lost : Nat) : State :=
  { card with cfg := { card.cfg with logCode := 4, logBase := 0x8000 }
              log := { accept := accept, write := accept, lost := lost, queue := [] } }

/-- Room for one record, none, none lost, some lost. -/
theorem witness_RecordsAreJudged : (logging 15 0).cfg.logCode ≠ 0 ∧ card.cfg.logCode = 0 ∧
    (index16 (logging 15 0).log.accept (logging 15 0).cfg.logRead < 2 ^ (logging 15 0).cfg.logCode ∧
      (logging 15 0).log.queue.length < 128 ∧ (logging 15 0).log.lost = 0) ∧
    ¬ index16 (logging 16 0).log.accept (logging 16 0).cfg.logRead < 2 ^ (logging 16 0).cfg.logCode ∧
    (logging 15 3).log.lost ≠ 0 := by decide

/-- Records lost, with room for the LOST record and another, and for the LOST record alone. -/
theorem witness_RecordsAreJudged_lost :
    (index16 (((logging 14 3).log.accept + 1) % 65536) (logging 14 3).cfg.logRead < 2 ^ (logging 14 3).cfg.logCode ∧
      (logging 14 3).log.queue.length + 1 < 128 ∧ (logging 14 3).log.lost ≠ 0) ∧
    2 ^ (logging 15 3).cfg.logCode ≤ index16 (((logging 15 3).log.accept + 1) % 65536) (logging 15 3).cfg.logRead := by decide

/-- The LOST record of three losses, the sixteenth of the log. -/
def lostRecord : LogRecord :=
  { seq := 15, draft := { kind := .lost, point := 57, severity := .minor, count := 0, sec := 0, ns := 0, value := 3 } }

/-- `logging` with its newest record's transaction in flight. -/
def writing : State :=
  { logging 15 0 with
      log := { accept := 16, write := 15, lost := 0, queue := [lostRecord] }
      port := { card.port with flight := some (.log (wordsAt 0x80F0 (recordImage lostRecord))) } }

theorem writing_logOk : writing.LogOk := by
  refine ⟨by decide, by decide, by decide, by decide, by decide, fun i r h => ?_, by decide, by decide, by decide,
    fun ws h => ⟨lostRecord, [], rfl, by cases h; rfl⟩⟩
  match i with
  | 0 => cases h; rfl
  | i + 1 => cases h

theorem witness_LogWrites :
    (writing.port.flight = some (.log (wordsAt 0x80F0 (recordImage lostRecord))) ∧ writing.log.queue = [lostRecord] ∧
      writing.MemoryOk ∧ writing.LogOk ∧ (recordImage lostRecord)[3]? = some 0#32) ∧
    (Calm (logging 1 0) ∧ ReachesRegion (logging 1 0) (at0 34) (globalIdx 34) ∧
      ReachesRegion (logging 1 0) (at0 35) (globalIdx 35) ∧ ReachesRegion (logging 1 0) (at0 36) (globalIdx 36)) ∧
    Calm (logging 0 3) :=
  ⟨⟨rfl, rfl, by unfold State.MemoryOk; decide, writing_logOk, by decide⟩, by unfold Calm ReachesRegion; decide,
    by unfold Calm; decide⟩

/-- R182, section 13.6: sequence 15, kind LOST (4), severity MINOR (2), point 57; then the value 3 in the upper half word. -/
theorem test_logWriteComplete : (after .logWriteComplete writing).log.write = 16 ∧
    (after .logWriteComplete writing).mem = [(0x80F0, 15#8), (0x80F2, 0x24#8), (0x80F3, 57#8), (0x80F6, 3#8)] := by decide

/-- R181: the base is held while a record stands unread; 3 names no capacity. -/
theorem test_logConfigWrite : (after (.logConfigWrite (at0 34) (.base 0x9008#32)) (logging 0 0)).cfg.logBase = 0x9000 ∧
    (after (.logConfigWrite (at0 34) (.base 0x9008#32)) (logging 1 0)).cfg.logBase = 0x8000 ∧
    (after (.logConfigWrite (at0 35) (.capacity 3#32)) (logging 0 0)).cfg.logCode = 4 := by decide

/-- R182: an index that would make the unread count grow is held. -/
theorem test_logReadIndexWrite : (after (.logReadIndexWrite (at0 36) 3#16) (logging 3 0)).cfg.logRead = 3 ∧
    (after (.logReadIndexWrite (at0 36) 4#16) (logging 3 0)).cfg.logRead = 0 := by decide

theorem witness_RecordWrites : card.cfg.InRange ∧ ReachesRegion card (at0 0x80) (windowIdx 0 0) ∧
    ReachesRegion card (at0 0x1FE) (windowIdx 95 2) ∧ ReachesRegion card (at0 0x300) (groupIdx 0 0) ∧
    ReachesRegion card (at0 0x33E) (groupIdx 15 2) ∧ ReachesRegion card (at0 0x200) (queueIdx 0 0) ∧
    ReachesRegion card (at0 0x2FE) (queueIdx 63 2) :=
  ⟨card_cfg_inRange, by unfold ReachesRegion; decide⟩

/-- R20: a size of 31 is clamped to 28, kind code 7 keeps the kind. -/
theorem test_windowRecordWrite : (after (.windowRecordWrite (at0 0x84) 1 0 0x001F0271#32) card).cfg.windows[1] =
    { valid := true, kind := .plain, rights := .write, size := 28, group := 0, localBase := 0, physBase := 0 } := by decide

/-- R73: a group over the control region is held. -/
theorem test_groupConfigWrite : (after (.groupConfigWrite (at0 0x302) 0 (.size 300#9)) card).cfg.groups[0].pages = 256 ∧
    (after (.groupConfigWrite (at0 0x300) 0 (.valid true)) card).cfg.groups[0].valid = false := by decide

/-- R39: held while the queue is not CLOSED. -/
theorem test_queueDescriptorWrite :
    (after (.queueDescriptorWrite (at0 0x201) 0 (.cellCount 15#4)) card).cfg.queues[0].cellCount = 12 ∧
    (after (.queueDescriptorWrite (at0 0x201) 0 (.cellCount 15#4)) (card.modQueue 0 fun x =>
      { x with state := .waiting })).cfg.queues[0].cellCount = 1 := by decide

/-- Slot 0's write reaches this word. -/
def Reached (k : Nat) (h : k < 4096) : Prop := ReachesRegion card (at0 k) ⟨k, h⟩

theorem witness_RegionWordsAreFormed :
    (Reached 3 (by decide) ∧ Reached 4 (by decide) ∧ Reached 10 (by decide) ∧ Reached 11 (by decide) ∧ Reached 12 (by decide) ∧
      Reached 13 (by decide) ∧ Reached 14 (by decide) ∧ Reached 16 (by decide) ∧ Reached 18 (by decide) ∧
      Reached 19 (by decide) ∧ Reached 20 (by decide) ∧ Reached 21 (by decide) ∧ Reached 22 (by decide) ∧
      Reached 23 (by decide) ∧ Reached 24 (by decide)) ∧
    (ReachesRegion card (at0 65) (slotIdx 0 1) ∧ ReachesRegion card (at0 109) (slotIdx 11 1) ∧
      ReachesRegion card (at0 0x341) (pointIdx 0 1) ∧ ReachesRegion card (at0 0x3B3) (pointIdx 57 1)) ∧
    (Calm card ∧ Reached 41 (by decide) ∧ Reached 63 (by decide) ∧ Reached 112 (by decide) ∧ Reached 127 (by decide) ∧
      Reached 948 (by decide) ∧ Reached 4095 (by decide)) ∧
    (ReachesRegion card (at0 67) (slotIdx 0 3) ∧ ReachesRegion card (at0 111) (slotIdx 11 3) ∧
      ReachesRegion card (at0 0x83) (windowIdx 0 3) ∧ ReachesRegion card (at0 0x1FF) (windowIdx 95 3) ∧
      ReachesRegion card (at0 0x303) (groupIdx 0 3) ∧ ReachesRegion card (at0 0x33F) (groupIdx 15 3)) := by
  unfold Reached ReachesRegion Calm
  repeat' apply And.intro
  all_goals decide

/-- R191: a byte not enabled keeps the copy's value, and a setting past its range is clamped: the error threshold, word 10. -/
theorem test_controlRegionWrite : (after (.controlRegionWrite (at0 10) ⟨10, by decide⟩ 0xFFFFFFFF#32 0x2#4) card).cfg.linkThreshold =
      0xFF10 ∧
    (after (.controlRegionWrite (at0 10) ⟨10, by decide⟩ 0#32 0xF#4) card).cfg.linkThreshold = 1 := by decide

theorem witness_WarmResets :
    (Calm { busy with warmPending := true } ∧ { busy with warmPending := true }.warmPending = true ∧
      ∀ g : GroupId, busy.groups[g].state ≠ .committing) ∧
    (Calm card ∧ ReachesRegion card (at0 0) (globalIdx 0) ∧ ∀ g : GroupId, card.groups[g].state ≠ .committing) ∧
    (Calm (staging .committing []) ∧ ReachesRegion (staging .committing []) (at0 0) (globalIdx 0) ∧
      (staging .committing []).groups[0].state = .committing) := by
  unfold Calm ReachesRegion; decide

/-- Cards held, the HOLD pending and sent; a zeroing and a slot write that wait. -/
theorem witness_WarmResets_marks :
    (Calm (link fun l => { l with holdFlag := true, mark := some .hold }) ∧ Calm (link fun l => { l with holdFlag := true })) ∧
    (Calm (card.setWaiting 1 (some (.write [] []))) ∧ (card.setWaiting 1 (some (.write [] []))).port.waiting[1] = some (.write [] []) ∧
      ReachesRegion (card.setWaiting 1 (some (.write [] []))) (at0 0) (globalIdx 0)) ∧
    Calm { card with port := { card.port with zeroing := some 63 } } := by
  unfold Calm ReachesRegion; decide

theorem test_warmReset : (after (.warmReset (at0 0)) (staging .armed [entry 0x10000 false])).staged = [] ∧
    (after (.warmReset (at0 0)) (staging .committing [])).warmPending = true := by decide

theorem test_warmResetCarriedOut : (after .warmResetCarriedOut { busy with warmPending := true }).queues[0].state = .closed ∧
    (after .warmResetCarriedOut { busy with warmPending := true }).mem = [(64, 5#8), (65, 6#8)] := by decide

theorem witness_StartUpWrites : State.reset.MemoryOk ∧ State.reset.startUp = some 0 ∧
    ({ State.reset with startUp := some 255 }).startUp = some 255 ∧
    (4095 : Nat) = 16 * 255 + ((15 : Fin 16).val) := by
  unfold State.MemoryOk; decide

end Sys2Proof.Tests
end

section
/-! SUPPORT. What a command may do to the slots, said once: `Moves s t` holds where every slot keeps what it has, or where a
slot changes its swap state with the effects of `moveSlot`. Both invariants of the notice lists follow from `Moves` alone, so
each operation of the model is read once, as a chain of moves, and never again for an invariant. -/

namespace Sys2Proof.Machine

open Sys2Proof

/-! ## What a slot that is not live has -/

/-- A link port that is not OPEN and holds no frames and no reads. -/
def PortIdle (l : LinkPort) : Prop := l.state ≠ .opened ∧ l.buffer = [] ∧ l.reads = []

/-- No staging entry has slot n in its origin set. -/
def State.Unstaged (s : State) (n : SlotId) : Prop := ∀ e ∈ s.staged, e.origin.getLsbD n.val = false

/-- Slot n is an endpoint of no OPEN queue. -/
def State.Unqueued (s : State) (n : SlotId) : Prop :=
  ∀ q : QueueId, endpoint s.cfg.queues[q] n = true → s.queues[q].state ≠ .opened

/-- What R148 asks of a slot that is not live. -/
def State.SlotClear (s : State) (n : SlotId) : Prop :=
  PortIdle s.links[n] ∧ s.lists[n] = NoticeList.blank ∧ s.Unstaged n ∧ s.Unqueued n

theorem noticeList_eq_blank (l : NoticeList) : l = NoticeList.blank ↔ l.entries = [] ∧ l.overflow = false := by
  cases l; simp [NoticeList.blank]

theorem idleSlotsClear_iff (s : State) : s.IdleSlotsClear ↔ ∀ n, live s n = false → s.SlotClear n := by
  simp only [State.IdleSlotsClear, State.SlotClear, PortIdle, State.Unstaged, State.Unqueued, noticeList_eq_blank, and_assoc]

/-! ## The form of a notice list (R71) -/

theorem blank_ok : NoticeList.blank.Ok := by simp [NoticeList.Ok, NoticeList.blank]

/-- A merge keeps every entry's identity, and counts up to 255 (R62). -/
theorem mergeNotice_ok (id : NoticeId) (d : Details) {l : NoticeList} (h : l.Ok) : (mergeNotice id d l).Ok := by
  obtain ⟨hlen, hids, hframe, hresync, hcount, hover⟩ := h
  have hid : ∀ e : Entry, (if e.id = id then mergeEntry d e else e).id = e.id := by
    intro e; split <;> rfl
  have hids' : (mergeNotice id d l).entries.map Entry.id = l.entries.map Entry.id := by
    simp [mergeNotice, Function.comp_def, hid]
  refine ⟨by simpa [mergeNotice] using hlen, hids' ▸ hids, ?_, ?_, ?_, by simpa [mergeNotice] using hover⟩
  · intro e he
    simp only [mergeNotice, ← List.map_tail, List.mem_map] at he
    obtain ⟨x, hx, rfl⟩ := he
    rw [hid]; exact hframe x hx
  · rintro ⟨e, he, hr⟩
    obtain ⟨x, hx, rfl⟩ := List.mem_map.1 he
    rw [hid] at hr
    simpa [mergeNotice] using hresync ⟨x, hx, hr⟩
  · intro e he
    obtain ⟨x, hx, rfl⟩ := List.mem_map.1 he
    have hc := hcount x hx
    split
    · simp only [mergeEntry, satAdd]; omega
    · exact hc

theorem hasNotice_false {id : NoticeId} {l : NoticeList} : hasNotice id l = false ↔ ∀ e ∈ l.entries, e.id ≠ id := by
  simp [hasNotice]

/-- A new entry keeps the form: a FRAME goes to the head and any other to the tail, of a list with no RESYNC, a clear mark and
room (R62, R66, R67). -/
theorem addNotice_ok {id : NoticeId} (hid : id ≠ .resync) (d : Details) {l : NoticeList} (h : l.Ok)
    (hnew : hasNotice id l = false) (hres : hasNotice .resync l = false) (hroom : l.entries.length < 32)
    (hclear : l.overflow = false) : (addNotice id d l).Ok := by
  obtain ⟨hlen, hids, hframe, hresync, hcount, hover⟩ := h
  rw [hasNotice_false] at hnew hres
  by_cases hf : id = .frame
  · subst hf
    simp only [NoticeList.Ok, addNotice, if_true]
    refine ⟨by simpa using hroom, ?_, by simpa using hnew, ?_, ?_, by simp⟩
    · simpa [hids] using hnew
    · rintro ⟨e, he, hr⟩
      rcases List.mem_cons.1 he with rfl | he
      · cases hr
      · exact absurd hr (hres e he)
    · intro e he
      rcases List.mem_cons.1 he with rfl | he
      · exact ⟨le_refl 1, (by decide : 1 ≤ 255)⟩
      · exact hcount e he
  · simp only [NoticeList.Ok, addNotice, if_neg hf]
    refine ⟨by simpa using hroom, ?_, ?_, ?_, ?_, by simp [hclear]⟩
    · rw [List.map_append, List.nodup_append']
      exact ⟨hids, List.nodup_singleton _, by simpa using fun e he => hnew e he⟩
    · intro e he
      cases hl : l.entries with
      | nil => rw [hl] at he; simp at he
      | cons x rest =>
        rw [hl] at he
        rcases List.mem_append.1 (by simpa using he : e ∈ rest ++ [_]) with he | he
        · exact hframe e (by rw [hl]; exact he)
        · rw [List.mem_singleton.1 he]; exact hf
    · rintro ⟨e, he, hr⟩
      rcases List.mem_append.1 he with he | he
      · exact absurd hr (hres e he)
      · rw [List.mem_singleton.1 he] at hr; exact absurd hr hid
    · intro e he
      rcases List.mem_append.1 he with he | he
      · exact hcount e he
      · rw [List.mem_singleton.1 he]; exact ⟨le_refl 1, (by decide : 1 ≤ 255)⟩

/-- A loss at a full list sets the mark over entries (R66). -/
theorem overflow_ok {l : NoticeList} (h : l.Ok) (hfull : ¬ l.entries.length < 32) :
    NoticeList.Ok { l with overflow := true } := by
  obtain ⟨hlen, hids, hframe, hresync, hcount, -⟩ := h
  refine ⟨hlen, hids, hframe, hresync, hcount, fun _ he => hfull ?_⟩
  rw [show l.entries = [] from he]; decide

/-- Entries taken away keep the form, once a list left empty with its mark set has its RESYNC (R67, R68, R69). -/
theorem resyncList_ok {l : NoticeList} (h : l.Ok) {es : List Entry} (hs : es.Sublist l.entries) :
    (resyncList { l with entries := es }).Ok := by
  obtain ⟨hlen, hids, hframe, hresync, hcount, -⟩ := h
  unfold resyncList
  split
  · simp [NoticeList.Ok]
  · rename_i hne
    refine ⟨hs.length_le.trans hlen, (hs.map _).nodup hids, fun e he => hframe e (hs.tail.subset he), ?_,
      fun e he => hcount e (hs.subset he), fun ho he => hne ⟨he, ho⟩⟩
    rintro ⟨e, he, hr⟩
    have h1 := hresync ⟨e, hs.subset he, hr⟩
    have h2 := hs.length_le
    have h3 : 0 < es.length := List.length_pos_of_mem he
    show es.length = 1
    omega

theorem resyncList_blank : resyncList NoticeList.blank = NoticeList.blank := rfl

/-- A table given by a function, read at a member. -/
theorem ofFn_get {α : Type} {k : Nat} (f : Fin k → α) (i : Fin k) : (Vector.ofFn f)[i] = f i := by simp

/-! ## Changes under which every slot keeps what it has -/

/-- A port's change that turns no link OFF, and under which an idle port of a slot that is not live stays idle. -/
def PortSteady (alive : Bool) (l l' : LinkPort) : Prop :=
  (l'.state = .off → l.state = .off) ∧ (alive = false → PortIdle l → PortIdle l')

/-- A list's change that keeps the form, and under which the empty list of a slot that is not live stays empty. -/
def ListSteady (alive : Bool) (l l' : NoticeList) : Prop :=
  (l.Ok → l'.Ok) ∧ (alive = false → l = NoticeList.blank → l' = NoticeList.blank)

/-- From s to t slot n keeps its swap state and the form of its list, its link is not turned OFF, and where the slot is not live
it gets nothing of its own. -/
structure SlotSteady (s t : State) (n : SlotId) : Prop where
  state : t.swaps[n].state = s.swaps[n].state
  port : PortSteady (live s n) s.links[n] t.links[n]
  list : ListSteady (live s n) s.lists[n] t.lists[n]
  staged : live s n = false → s.Unstaged n → t.Unstaged n
  queues : live s n = false → s.Unqueued n → t.Unqueued n

/-- Every slot keeps what it has. -/
def Steady (s t : State) : Prop := ∀ n, SlotSteady s t n

theorem PortSteady.refl (b : Bool) (l : LinkPort) : PortSteady b l l := ⟨id, fun _ h => h⟩
theorem PortSteady.trans {b : Bool} {l l' l'' : LinkPort} (h : PortSteady b l l') (k : PortSteady b l' l'') :
    PortSteady b l l'' := ⟨h.1 ∘ k.1, fun hb hp => k.2 hb (h.2 hb hp)⟩

theorem ListSteady.refl (b : Bool) (l : NoticeList) : ListSteady b l l := ⟨id, fun _ h => h⟩

theorem ListSteady.trans {b : Bool} {l l' l'' : NoticeList} (h : ListSteady b l l') (k : ListSteady b l' l'') :
    ListSteady b l l'' := ⟨k.1 ∘ h.1, fun hb hp => k.2 hb (h.2 hb hp)⟩

theorem SlotSteady.live_eq {s t : State} {n : SlotId} (h : SlotSteady s t n) : live t n = live s n := by
  unfold live; rw [h.state]

theorem SlotSteady.trans {s t u : State} {n : SlotId} (h : SlotSteady s t n) (k : SlotSteady t u n) : SlotSteady s u n := by
  have hl := h.live_eq
  exact ⟨k.state.trans h.state, h.port.trans (hl ▸ k.port), h.list.trans (hl ▸ k.list),
    fun hn hu => k.staged (hl.trans hn) (h.staged hn hu), fun hn hu => k.queues (hl.trans hn) (h.queues hn hu)⟩

theorem Steady.trans {s t u : State} (h : Steady s t) (k : Steady t u) : Steady s u := fun n => (h n).trans (k n)

/-- The fields that say what the slots have, with the swap states and the queue states alone of their records. -/
def State.slotPart (s : State) : (SlotId → SwapState) × Vector LinkPort 12 × Vector NoticeList 12 × List Staged ×
    (QueueId → QueueState) × Vector QueueCfg 64 :=
  (fun n => s.swaps[n].state, s.links, s.lists, s.staged, fun q => s.queues[q].state, s.cfg.queues)

theorem slotPart_iff {s t : State} : t.slotPart = s.slotPart ↔ (∀ n : SlotId, t.swaps[n].state = s.swaps[n].state) ∧
    t.links = s.links ∧ t.lists = s.lists ∧ t.staged = s.staged ∧ (∀ q : QueueId, t.queues[q].state = s.queues[q].state) ∧
    t.cfg.queues = s.cfg.queues := by
  simp only [State.slotPart, Prod.mk.injEq, funext_iff]

theorem unstaged_of_staged {s t : State} (h : t.staged = s.staged) {n : SlotId} (hu : s.Unstaged n) : t.Unstaged n := by
  unfold State.Unstaged; rw [h]; exact hu

theorem unqueued_of_queues {s t : State} (h : ∀ q : QueueId, t.queues[q].state = s.queues[q].state)
    (hc : t.cfg.queues = s.cfg.queues) {n : SlotId} (hu : s.Unqueued n) : t.Unqueued n := by
  intro q; rw [hc, h q]; exact hu q

/-- A change that leaves those fields alone. -/
theorem steady_of_slotPart {s t : State} (h : t.slotPart = s.slotPart) : Steady s t := by
  obtain ⟨hswap, hlinks, hlists, hstaged, hqueues, hcfg⟩ := slotPart_iff.1 h
  intro n
  refine ⟨hswap n, ?_, ?_, fun _ => unstaged_of_staged hstaged, fun _ => unqueued_of_queues hqueues hcfg⟩
  · rw [hlinks]; exact PortSteady.refl _ _
  · rw [hlists]; exact ListSteady.refl _ _

theorem Steady.refl (s : State) : Steady s s := steady_of_slotPart rfl

theorem modSwap_slotPart (s : State) (n : SlotId) {f : Swap → Swap} (h : (f s.swaps[n]).state = s.swaps[n].state) :
    (s.modSwap n f).slotPart = s.slotPart := by
  have : (fun m : SlotId => (s.modSwap n f).swaps[m].state) = fun m => s.swaps[m].state := by
    funext m
    rw [State.modSwap_get]; split
    · rename_i hm; subst hm; exact h
    · rfl
  unfold State.slotPart
  rw [this]; rfl

theorem steady_links (s : State) (v : Vector LinkPort 12) (h : ∀ n : SlotId, PortSteady (live s n) s.links[n] v[n]) :
    Steady s { s with links := v } := fun n =>
  ⟨rfl, h n, ListSteady.refl _ _, fun _ hu => hu, fun _ hu => hu⟩

theorem steady_lists (s : State) (v : Vector NoticeList 12) (h : ∀ n : SlotId, ListSteady (live s n) s.lists[n] v[n]) :
    Steady s { s with lists := v } := fun n =>
  ⟨rfl, PortSteady.refl _ _, h n, fun _ hu => hu, fun _ hu => hu⟩

theorem steady_staged (s : State) (l : List Staged)
    (h : ∀ n : SlotId, live s n = false → s.Unstaged n → ∀ e ∈ l, e.origin.getLsbD n.val = false) :
    Steady s { s with staged := l } := fun n =>
  ⟨rfl, PortSteady.refl _ _, ListSteady.refl _ _, h n, fun _ hu => hu⟩

/-- Queues of which none becomes OPEN. -/
theorem steady_queues (s : State) (v : Vector Queue 64)
    (h : ∀ q : QueueId, v[q].state = .opened → s.queues[q].state = .opened) : Steady s { s with queues := v } := fun _ =>
  ⟨rfl, PortSteady.refl _ _, ListSteady.refl _ _, fun _ hu => hu, fun _ hu q he ho => hu q he (h q ho)⟩

theorem steady_modLink (s : State) (n : SlotId) (f : LinkPort → LinkPort)
    (h : PortSteady (live s n) s.links[n] (f s.links[n])) : Steady s (s.modLink n f) := by
  refine steady_links s _ fun m => ?_
  show PortSteady _ _ (s.modLink n f).links[m]
  rw [State.modLink_get]; split
  · rename_i hm; subst hm; exact h
  · exact PortSteady.refl _ _

theorem steady_modList (s : State) (n : SlotId) (f : NoticeList → NoticeList)
    (h : ListSteady (live s n) s.lists[n] (f s.lists[n])) : Steady s (s.modList n f) := by
  refine steady_lists s _ fun m => ?_
  show ListSteady _ _ (s.modList n f).lists[m]
  rw [State.modList_get]; split
  · rename_i hm; subst hm; exact h
  · exact ListSteady.refl _ _

theorem steady_modQueue (s : State) (q : QueueId) (f : Queue → Queue)
    (h : (f s.queues[q]).state = .opened → s.queues[q].state = .opened) : Steady s (s.modQueue q f) := by
  refine steady_queues s _ fun x hx => ?_
  change (s.modQueue q f).queues[x].state = .opened at hx
  rw [State.modQueue_get] at hx; split at hx
  · rename_i hm; subst hm; exact h hx
  · exact hx

/-! ## The ports' changes -/

section Ports

variable (b : Bool) (l : LinkPort)

/-- A change that keeps a port's link state, buffer and reads. -/
theorem portSteady_of_eq {l' : LinkPort} (hst : l'.state = l.state) (hb : l'.buffer = l.buffer) (hr : l'.reads = l.reads) :
    PortSteady b l l' := by
  unfold PortSteady PortIdle; rw [hst, hb, hr]; exact ⟨id, fun _ h => h⟩

/-- A change that empties a port's buffer and reads and leaves it in its link state, or in one that is neither OFF nor OPEN. -/
theorem portSteady_of_flushed {l' : LinkPort} (hst : l'.state = l.state ∨ (l'.state ≠ .off ∧ l'.state ≠ .opened))
    (hb : l'.buffer = []) (hr : l'.reads = []) : PortSteady b l l' := by
  rcases hst with hst | ⟨hoff, hopen⟩
  · exact ⟨fun h => hst ▸ h, fun _ hp => ⟨fun h => hp.1 (hst ▸ h), hb, hr⟩⟩
  · exact ⟨fun h => absurd h hoff, fun _ _ => ⟨hopen, hb, hr⟩⟩

/-- A change that only moves the link on, to a state that is neither OFF nor OPEN. -/
theorem portSteady_of_state {l' : LinkPort} (hst : l'.state ≠ .off ∧ l'.state ≠ .opened) (hb : l'.buffer = l.buffer)
    (hr : l'.reads = l.reads) : PortSteady b l l' :=
  ⟨fun h => absurd h hst.1, fun _ hp => ⟨hst.2, hb ▸ hp.2.1, hr ▸ hp.2.2⟩⟩

theorem markGo_steady : PortSteady b l (markGo l) := by
  unfold markGo; split <;> exact portSteady_of_eq b l rfl rfl rfl

theorem markGo_state : (markGo l).state = l.state := by unfold markGo; split <;> rfl

theorem popFrame_steady : PortSteady b l (popFrame l) :=
  PortSteady.trans (l' := { l with buffer := l.buffer.tail }) ⟨id, fun _ ⟨ho, hb, hr⟩ => ⟨ho, by simp [hb], hr⟩⟩
    (markGo_steady b _)

theorem flushPort_steady : PortSteady b l (flushPort l) := portSteady_of_flushed b l (.inl rfl) rfl rfl

theorem warmPort_steady : PortSteady b l (warmPort l) := (flushPort_steady b l).trans (markGo_steady b _)

theorem misalign_steady : PortSteady b l (misalign l) :=
  portSteady_of_flushed b l (.inr ⟨nofun, nofun⟩) rfl rfl

theorem fencePort_steady : PortSteady b l (fencePort l) := by
  unfold fencePort; split
  · exact PortSteady.refl _ _
  · exact portSteady_of_flushed b l (.inr ⟨nofun, nofun⟩) rfl rfl

/-- A fence empties a port that is not OFF (R7). -/
theorem fencePort_idle {l : LinkPort} (h : l.state ≠ .off) : PortIdle (fencePort l) := by
  unfold fencePort; rw [if_neg h]; exact ⟨nofun, rfl, rfl⟩

theorem alignPort_steady : PortSteady b l (alignPort l) := by
  unfold alignPort; split
  · exact portSteady_of_state b l ⟨nofun, nofun⟩ rfl rfl
  · exact PortSteady.refl _ _

theorem alignPort_on : (alignPort l).state ≠ .off := by
  unfold alignPort; split
  · exact nofun
  · assumption

theorem offPort_idle : PortIdle (offPort l) := ⟨nofun, rfl, rfl⟩

theorem idleArrives_steady : PortSteady b l (idleArrives l) := by
  unfold idleArrives; split
  · exact PortSteady.refl _ _
  · split
    · exact portSteady_of_eq b l rfl rfl rfl
    · exact portSteady_of_state b l ⟨nofun, nofun⟩ rfl rfl
  · exact portSteady_of_eq b l rfl rfl rfl
  · exact portSteady_of_eq b l rfl rfl rfl
  · exact PortSteady.refl _ _

/-- A change of an OPEN port that keeps it OPEN. -/
theorem portSteady_of_opened {l l' : LinkPort} (h : l.state = .opened) (h' : l'.state = l.state) : PortSteady b l l' :=
  ⟨fun hoff => h' ▸ hoff, fun _ hp => absurd h hp.1⟩

theorem storeFrame_state (r : Request) : (storeFrame r l).state = l.state := by
  unfold storeFrame markHold; split_ifs <;> rfl

theorem requestArrives_steady (r : Request) : PortSteady b l (requestArrives r l) := by
  unfold requestArrives; split
  · exact PortSteady.refl _ _
  · exact portSteady_of_eq b l rfl rfl rfl
  · exact portSteady_of_eq b l rfl rfl rfl
  · rename_i h; exact portSteady_of_opened b h (storeFrame_state _ r)
  · exact PortSteady.refl _ _

theorem missEcho_steady : PortSteady b l (missEcho l) := by
  unfold missEcho; simp only; split <;> exact portSteady_of_eq b l rfl rfl rfl

theorem endWindow_steady (k : Nat) : PortSteady b l (endWindow k l) := by
  unfold endWindow; split_ifs <;> exact portSteady_of_eq b l rfl rfl rfl

theorem beginGo_steady : PortSteady b l (beginGo l) := by
  unfold beginGo; split <;> exact portSteady_of_eq b l rfl rfl rfl

/-- The head read leaves a list of reads that has one (R11). -/
theorem beginData_steady : PortSteady b l (beginData l) := by
  unfold beginData; split
  · rename_i e rest h
    exact ⟨id, fun _ hp => absurd (h.symm.trans hp.2.2) (List.cons_ne_nil _ _)⟩
  · exact PortSteady.refl _ _

theorem acceptRead_steady (e : ReadEntry) (h : l.state = .opened) : PortSteady b l (acceptRead e l) :=
  portSteady_of_opened b h (markGo_state _)

end Ports

/-! ## A slot's change of swap state -/

/-- The chains of changes that commands make: changes under which every slot keeps what it has; a slot's change of swap state,
where a live slot that leaves loses link enable (R129, R138) or has its link fenced (R7, R138); and a link that opens as its slot
becomes ACTIVE by it (R6, R135). -/
inductive Moves : State → State → Prop where
  | steady {s t : State} : Steady s t → Moves s t
  | slot {s : State} (n : SlotId) (st : SwapState) (r : Reason) :
      (live s n = true → liveState st = false → linkEnabled st = false) → Moves s (moveSlot n st r s).1
  | fence {s : State} (n : SlotId) (r : Reason) : Moves s (moveSlot n .fenced r (fenceLink n s)).1
  | opens {s : State} (n : SlotId) (r : Reason) (d : Nat) : Moves s (moveSlot n .active r (s.modLink n (openLink d))).1
  | trans {s t u : State} : Moves s t → Moves t u → Moves s u

theorem Moves.refl (s : State) : Moves s s := .steady (.refl s)

theorem moves_of_slotPart {s t : State} (h : t.slotPart = s.slotPart) : Moves s t := .steady (steady_of_slotPart h)

/-- Acts that move, one after the other. -/
theorem Eff.andThen_moves {s : State} {e : Eff} {f : State → Eff} (he : Moves s e.1) (hf : ∀ t, Moves t (f t).1) :
    Moves s (e.andThen f).1 := he.trans (hf _)

theorem foldEff_moves {α : Type} {f : α → State → Eff} (h : ∀ a t, Moves t (f a t).1) :
    ∀ (l : List α) (s : State), Moves s (foldEff f l s).1
  | [], s => .refl s
  | a :: l, s => (h a s).trans (foldEff_moves h l (f a s).1)

end Sys2Proof.Machine
end

section
/-! SUPPORT. Notices, the teardown and a slot's change of swap state; and the two invariants of the slots, kept by every
move. -/

namespace Sys2Proof.Machine

open Sys2Proof

/-! ## Notices -/

/-- A notice handed leaves every slot what it has: the list of a live slot alone changes, and keeps its form (R60). -/
theorem handNotice_steady (n : SlotId) {id : NoticeId} (hid : id ≠ .resync) (d : Details) (s : State) :
    Steady s (handNotice n id d s).1 := by
  unfold handNotice
  simp only
  split_ifs with hlive hmerge hlost hroom
  · exact .refl s
  · exact steady_modList s n _ ⟨mergeNotice_ok id d, fun hn => by simp [hn] at hlive⟩
  · exact .refl s
  · simp only [Bool.or_eq_true, not_or, Bool.not_eq_true] at hlost hmerge
    exact steady_modList s n _ ⟨fun h => addNotice_ok hid d h hmerge hlost.1 hroom hlost.2, fun hn => by simp [hn] at hlive⟩
  · exact steady_modList s n (fun l => { l with overflow := true })
      ⟨fun h => overflow_ok h hroom, fun hn => by simp [hn] at hlive⟩

theorem handAll_moves (ns : List SlotId) {id : NoticeId} (hid : id ≠ .resync) (d : SlotId → Details) (s : State) :
    Moves s (handAll ns id d s).1 :=
  foldEff_moves (fun n t => .steady (handNotice_steady n hid (d n) t)) ns s

theorem handCommitDone_moves (g : GroupId) (r : CommitResult) (k : Nat) (s : State) :
    Moves s (handCommitDone g r k s).1 := handAll_moves _ (id := .commitDone g) nofun _ s

theorem handSwapNotice_moves (n : SlotId) (st : SwapState) (c : Reason) (s : State) :
    Moves s (handSwapNotice n st c s).1 := handAll_moves _ (id := .swap n) nofun _ s

theorem queueNotice_steady (k : QueueNotice) (q : QueueId) (m : Nat) (s : State) : Steady s (queueNotice k q m s).1 := by
  unfold queueNotice; split
  · exact handNotice_steady _ (id := .queue k q) nofun _ s
  · exact .refl s

theorem foldEff_steady {α : Type} {f : α → State → Eff} (h : ∀ a t, Steady t (f a t).1) :
    ∀ (l : List α) (s : State), Steady s (foldEff f l s).1
  | [], s => .refl s
  | a :: l, s => (h a s).trans (foldEff_steady h l (f a s).1)

theorem dropQueueNotices_steady (q : QueueId) (s : State) : Steady s (dropQueueNotices q s) := by
  refine steady_lists s _ fun n => ?_
  rw [ofFn_get]
  exact ⟨fun h => resyncList_ok h List.filter_sublist, fun _ h => by rw [h]; rfl⟩

theorem resyncList_steady (b : Bool) (l : NoticeList) : ListSteady b l (resyncList l) :=
  ⟨fun h => resyncList_ok h (List.Sublist.refl _), fun _ h => h ▸ resyncList_blank⟩

/-! ## The teardown (R138) -/

/-- After the purge no entry has the slot in its origin set (R90). -/
theorem purgeSlot_unstaged (n : SlotId) (s : State) : (purgeSlot n s).Unstaged n := by
  intro e he
  obtain ⟨x, -, rfl⟩ := List.mem_map.1 he
  simp

theorem purgeSlot_steady (n : SlotId) (s : State) : Steady s (purgeSlot n s) := by
  refine (steady_staged s _ fun m _ hu e he => ?_).trans (steady_of_slotPart (t := purgeSlot n s) rfl)
  obtain ⟨x, hx, rfl⟩ := List.mem_map.1 he
  show (x.origin &&& _).getLsbD m.val = false
  rw [BitVec.getLsbD_and, hu x (List.mem_filter.1 hx).1, Bool.false_and]

theorem withdrawStale_slotPart (s : State) : (withdrawStale s).slotPart = s.slotPart := by
  unfold withdrawStale; split
  · split <;> rfl
  · rfl

theorem detachQueue_state (x : Queue) : (detachQueue x).state ≠ .opened := by
  unfold detachQueue; split
  · exact nofun
  · exact nofun
  · assumption

/-- The queues as a leaving slot leaves them, before their notices (R53). -/
def State.detached (n : SlotId) (s : State) : State := withdrawStale { s with queues := Vector.ofFn (detachedQueue n s) }

theorem detached_slotPart (n : SlotId) (s : State) :
    (s.detached n).slotPart = { s with queues := Vector.ofFn (detachedQueue n s) }.slotPart := withdrawStale_slotPart _

theorem detached_steady (n : SlotId) (s : State) : Steady s (s.detached n) := by
  refine (steady_queues s (Vector.ofFn (detachedQueue n s)) fun q hq => ?_).trans
    (steady_of_slotPart (detached_slotPart n s))
  rw [ofFn_get, detachedQueue] at hq
  split at hq
  · exact absurd hq (detachQueue_state _)
  · exact hq

theorem detached_unqueued (n : SlotId) (s : State) : (s.detached n).Unqueued n := by
  obtain ⟨-, -, -, -, hq, hc⟩ := slotPart_iff.1 (detached_slotPart n s)
  refine unqueued_of_queues hq hc fun q he => ?_
  change (Vector.ofFn (detachedQueue n s))[q].state ≠ _
  rw [ofFn_get, detachedQueue, if_pos he]
  exact detachQueue_state _

theorem detachSlot_eq (n : SlotId) (s : State) :
    detachSlot n s = foldEff (detachNotice n) (detaching n s) (s.detached n) := rfl

theorem detachNotices_steady (n : SlotId) (l : List QueueId) (s : State) :
    Steady s (foldEff (detachNotice n) l s).1 := by
  refine foldEff_steady (fun q t => ?_) l s
  unfold detachNotice; split
  · exact .refl t
  · exact queueNotice_steady _ _ _ t

theorem clearDraw_steady (n : SlotId) (s : State) : Steady s (clearDraw n s) := steady_of_slotPart rfl

theorem blankList_steady (n : SlotId) (s : State) : Steady s (s.modList n fun _ => NoticeList.blank) :=
  steady_modList s n _ ⟨fun _ => blank_ok, fun _ _ => rfl⟩

theorem teardown_steady (n : SlotId) (s : State) : Steady s (teardown n s).1 := by
  unfold teardown
  rw [detachSlot_eq]
  exact (((blankList_steady n s).trans (purgeSlot_steady n _)).trans (clearDraw_steady n _)).trans
    ((detached_steady n _).trans (detachNotices_steady n _ _))

/-- The teardown leaves a slot that is not live no notices, no staging entries and no OPEN queue (R138, R148). -/
theorem teardown_clears {n : SlotId} {s : State} (h : live s n = false) :
    (teardown n s).1.lists[n] = NoticeList.blank ∧ (teardown n s).1.Unstaged n ∧ (teardown n s).1.Unqueued n := by
  unfold teardown
  rw [detachSlot_eq]
  have h1 := blankList_steady n s n
  have h2 := purgeSlot_steady n (s.modList n fun _ => NoticeList.blank) n
  have h3 := (clearDraw_steady n (purgeSlot n (s.modList n fun _ => NoticeList.blank)) n).trans
    (detached_steady n (clearDraw n (purgeSlot n (s.modList n fun _ => NoticeList.blank))) n)
  have h4 := detachNotices_steady n (detaching n (clearDraw n (purgeSlot n (s.modList n fun _ => NoticeList.blank))))
    ((clearDraw n (purgeSlot n (s.modList n fun _ => NoticeList.blank))).detached n) n
  have l1 := h1.live_eq.trans h
  have l2 := h2.live_eq.trans l1
  have l3 := h3.live_eq.trans l2
  have hblank : (s.modList n fun _ => NoticeList.blank).lists[n] = NoticeList.blank := State.modList_get_self _ _ _
  exact ⟨((h2.trans h3).trans h4).list.2 l1 hblank, (h3.trans h4).staged l2 (purgeSlot_unstaged n _),
    h4.queues l3 (detached_unqueued n _)⟩

/-! ## A slot's change of swap state -/

/-- A port as link enable follows the swap state (R3, R129). -/
def switchedPort (before after : SwapState) (l : LinkPort) : LinkPort :=
  if linkEnabled before = linkEnabled after then l else if linkEnabled after then alignPort l else offPort l

theorem withdrawRead_slotPart (n : SlotId) (s : State) : (withdrawRead n s).slotPart = s.slotPart := by
  unfold withdrawRead; split <;> rfl

theorem modLink_slotPart {s t : State} (h : t.slotPart = s.slotPart) (n : SlotId) (f : LinkPort → LinkPort) :
    (t.modLink n f).slotPart = (s.modLink n f).slotPart := by
  have hl : t.links = s.links := (slotPart_iff.1 h).2.1
  have h1 : (t.modLink n f).slotPart = (t.slotPart.1, t.links.set n (f t.links[n]), t.slotPart.2.2) := rfl
  have h2 : (s.modLink n f).slotPart = (s.slotPart.1, s.links.set n (f s.links[n]), s.slotPart.2.2) := rfl
  rw [h1, h2, h, hl]

theorem switchLink_slotPart (n : SlotId) (before after : SwapState) (s : State) :
    (switchLink n before after s).1.slotPart = (s.modLink n (switchedPort before after)).slotPart := by
  unfold switchLink
  split_ifs with h1 h2
  · have : s.links.set n (switchedPort before after s.links[n]) = s.links := by
      rw [switchedPort, if_pos h1]; exact Vector.set_getElem_self _
    unfold State.modLink; rw [this]
  · have : switchedPort before after = alignPort := by funext l; rw [switchedPort, if_neg h1, if_pos h2]
    rw [this]; rfl
  · have : switchedPort before after = offPort := by funext l; rw [switchedPort, if_neg h1, if_neg h2]
    rw [this]; exact modLink_slotPart (withdrawRead_slotPart n s) n offPort

/-- The state a slot's change reaches before the teardown. -/
def State.switched (n : SlotId) (st : SwapState) (r : Reason) (s : State) : State :=
  (switchLink n s.swaps[n].state st (enterSwap n st r s)).1

/-- A change of swap state, with the teardown of a slot that stops being live by it (R138). -/
theorem moveSlot_fst (n : SlotId) (st : SwapState) (r : Reason) (s : State) :
    (moveSlot n st r s).1 =
      if live s n = true ∧ liveState st = false then (teardown n (s.switched n st r)).1 else s.switched n st r := by
  unfold moveSlot State.switched live
  simp only [Bool.and_eq_true, Bool.not_eq_true']
  split <;> rfl

section Switched

variable (n : SlotId) (st : SwapState) (r : Reason) (s : State)

theorem switched_slotPart :
    (s.switched n st r).slotPart = ((enterSwap n st r s).modLink n (switchedPort s.swaps[n].state st)).slotPart :=
  switchLink_slotPart n _ st _

theorem switched_swap : (s.switched n st r).swaps[n].state = st := by
  rw [(slotPart_iff.1 (switched_slotPart n st r s)).1 n, State.modLink_swaps]
  unfold enterSwap
  rw [State.modMarks_swaps, State.modSwap_get_self]; rfl

theorem switched_link : (s.switched n st r).links[n] = switchedPort s.swaps[n].state st s.links[n] := by
  rw [(slotPart_iff.1 (switched_slotPart n st r s)).2.1, State.modLink_get_self]; rfl

theorem switched_lists : (s.switched n st r).lists = s.lists := (slotPart_iff.1 (switched_slotPart n st r s)).2.2.1

theorem switched_unstaged {m : SlotId} (h : s.Unstaged m) : (s.switched n st r).Unstaged m :=
  unstaged_of_staged (slotPart_iff.1 (switched_slotPart n st r s)).2.2.2.1 h

theorem switched_unqueued {m : SlotId} (h : s.Unqueued m) : (s.switched n st r).Unqueued m := by
  obtain ⟨-, -, -, -, hq, hc⟩ := slotPart_iff.1 (switched_slotPart n st r s)
  exact unqueued_of_queues hq hc h

/-- The other slots keep what they have. -/
theorem switched_steady {m : SlotId} (h : n ≠ m) : SlotSteady s (s.switched n st r) m := by
  obtain ⟨hswap, hlinks, -⟩ := slotPart_iff.1 (switched_slotPart n st r s)
  refine ⟨?_, ?_, ?_, fun _ => switched_unstaged n st r s, fun _ => switched_unqueued n st r s⟩
  · rw [hswap m, State.modLink_swaps]
    unfold enterSwap
    rw [State.modMarks_swaps, State.modSwap_get_ne _ _ _ _ h]
  · rw [hlinks, State.modLink_get_ne _ _ _ _ h]; exact PortSteady.refl _ _
  · rw [switched_lists]; exact ListSteady.refl _ _

end Switched

theorem moveSlot_steady {n m : SlotId} (h : n ≠ m) (st : SwapState) (r : Reason) (s : State) :
    SlotSteady s (moveSlot n st r s).1 m := by
  rw [moveSlot_fst]; split
  · exact (switched_steady n st r s h).trans (teardown_steady n _ m)
  · exact switched_steady n st r s h

/-- The port that follows the swap state stays idle, is not OFF where link enable is on, and is idle where it goes off. -/
theorem switchedPort_idle (a b : SwapState) {l : LinkPort} (h : PortIdle l) : PortIdle (switchedPort a b l) := by
  unfold switchedPort; split_ifs
  · exact h
  · exact (alignPort_steady false l).2 rfl h
  · exact offPort_idle l

theorem switchedPort_on {a b : SwapState} {l : LinkPort} (hb : linkEnabled b = true)
    (h : linkEnabled a = true → l.state ≠ .off) : (switchedPort a b l).state ≠ .off := by
  unfold switchedPort; split_ifs with hab
  · exact h (hab.trans hb)
  · exact alignPort_on l

theorem switchedPort_off {a b : SwapState} (ha : linkEnabled a = true) (hb : linkEnabled b = false) (l : LinkPort) :
    PortIdle (switchedPort a b l) := by
  rw [switchedPort, if_neg (by rw [ha, hb]; decide), if_neg (by rw [hb]; decide)]; exact offPort_idle l

theorem linkEnabled_of_live {s : State} {n : SlotId} (h : live s n = true) : linkEnabled s.swaps[n].state = true := by
  simp only [live, liveState, decide_eq_true_eq] at h
  simp only [linkEnabled, decide_eq_true_eq]
  tauto

/-! ## The form of the lists under every move -/

/-- Slot n's part of R70 and R71. -/
def State.ListOk (s : State) (n : SlotId) : Prop := (s.lists[n]).Ok ∧ (live s n = false → s.lists[n] = NoticeList.blank)

theorem SlotSteady.listOk {s t : State} {n : SlotId} (h : SlotSteady s t n) (hs : s.ListOk n) : t.ListOk n :=
  ⟨h.list.1 hs.1, fun hn => h.list.2 (h.live_eq ▸ hn) (hs.2 (h.live_eq ▸ hn))⟩

theorem switched_live (n : SlotId) (st : SwapState) (r : Reason) (s : State) : live (s.switched n st r) n = liveState st := by
  rw [live, switched_swap]

theorem moveSlot_listOk (n : SlotId) (st : SwapState) (r : Reason) {s : State} (hs : s.ListOk n) :
    (moveSlot n st r s).1.ListOk n := by
  have hl := switched_live n st r s
  rw [moveSlot_fst]; split
  · rename_i h
    have ht := teardown_steady n (s.switched n st r) n
    refine ⟨ht.list.1 ?_, fun _ => (teardown_clears (hl.trans h.2)).1⟩
    rw [switched_lists]; exact hs.1
  · rename_i h
    unfold State.ListOk
    rw [switched_lists, hl]
    exact ⟨hs.1, fun hn => hs.2 (Bool.eq_false_iff.2 fun hlive => h ⟨hlive, hn⟩)⟩

theorem moveSlot_listsOk (n : SlotId) (st : SwapState) (r : Reason) {s : State} (hs : s.ListsOk) :
    (moveSlot n st r s).1.ListsOk := by
  intro m
  by_cases h : n = m
  · subst h; exact moveSlot_listOk n st r (hs n)
  · exact (moveSlot_steady h st r s).listOk (hs m)

theorem Steady.listsOk {s t : State} (h : Steady s t) (hs : s.ListsOk) : t.ListsOk := fun n => (h n).listOk (hs n)

theorem fenceLink_steady (n : SlotId) (s : State) : Steady s (fenceLink n s) :=
  (steady_of_slotPart (withdrawRead_slotPart n s)).trans (steady_modLink _ n _ (fencePort_steady _ _))

theorem Moves.listsOk {s t : State} (h : Moves s t) : s.ListsOk → t.ListsOk := by
  induction h with
  | steady h => exact h.listsOk
  | slot n st r _ => exact moveSlot_listsOk n st r
  | fence n r => exact fun hs => moveSlot_listsOk n .fenced r ((fenceLink_steady n _).listsOk hs)
  | opens n r d => exact fun hs => moveSlot_listsOk n .active r (s := State.modLink _ n (openLink d)) hs
  | trans _ _ ih1 ih2 => exact ih2 ∘ ih1

/-! ## What a slot that is not live has, under every move -/

/-- Slot n's part of R148, with a link that is not OFF under link enable (R3). -/
def State.SlotSound (s : State) (n : SlotId) : Prop :=
  (linkEnabled s.swaps[n].state = true → s.links[n].state ≠ .off) ∧ (live s n = false → s.SlotClear n)

theorem SlotSteady.slotSound {s t : State} {n : SlotId} (h : SlotSteady s t n) (hs : s.SlotSound n) : t.SlotSound n := by
  refine ⟨fun hon hoff => hs.1 (h.state ▸ hon) (h.port.1 hoff), fun hn => ?_⟩
  have hn' : live s n = false := h.live_eq ▸ hn
  obtain ⟨hport, hlist, hstaged, hqueues⟩ := hs.2 hn'
  exact ⟨h.port.2 hn' hport, h.list.2 hn' hlist, h.staged hn' hstaged, h.queues hn' hqueues⟩

/-- A change of slot n's swap state leaves n sound: link enable that is on has a link that is not OFF; a live slot that leaves
loses link enable or has been fenced; and one that was not live has nothing still. -/
theorem moveSlot_slotSound (n : SlotId) (st : SwapState) (r : Reason) {s : State}
    (hon : linkEnabled s.swaps[n].state = true → s.links[n].state ≠ .off)
    (hleave : live s n = true → liveState st = false → linkEnabled st = false ∨ PortIdle s.links[n])
    (hidle : live s n = false → liveState st = false → s.SlotClear n) : (moveSlot n st r s).1.SlotSound n := by
  have hl := switched_live n st r s
  have honU : linkEnabled (s.switched n st r).swaps[n].state = true → (s.switched n st r).links[n].state ≠ .off := by
    rw [switched_swap, switched_link]; exact fun h => switchedPort_on h hon
  rw [moveSlot_fst]; split
  · rename_i h
    have ht := teardown_steady n (s.switched n st r) n
    refine ⟨fun h1 hoff => honU (ht.state ▸ h1) (ht.port.1 hoff),
      fun _ => ⟨ht.port.2 (hl.trans h.2) ?_, teardown_clears (hl.trans h.2)⟩⟩
    rw [switched_link]
    rcases hleave h.1 h.2 with hoff | hp
    · exact switchedPort_off (linkEnabled_of_live h.1) hoff _
    · exact switchedPort_idle _ _ hp
  · rename_i h
    refine ⟨honU, fun hn => ?_⟩
    rw [hl] at hn
    obtain ⟨hport, hlist, hstaged, hqueues⟩ := hidle (Bool.eq_false_iff.2 fun hlive => h ⟨hlive, hn⟩) hn
    refine ⟨?_, ?_, switched_unstaged n st r s hstaged, switched_unqueued n st r s hqueues⟩
    · rw [switched_link]; exact switchedPort_idle _ _ hport
    · rw [switched_lists]; exact hlist

theorem modLink_steady_ne {n m : SlotId} (h : n ≠ m) (f : LinkPort → LinkPort) (s : State) :
    SlotSteady s (s.modLink n f) m := by
  refine ⟨rfl, ?_, ListSteady.refl _ _, fun _ hu => hu, fun _ hu => hu⟩
  rw [State.modLink_get_ne _ _ _ _ h]; exact PortSteady.refl _ _

theorem Moves.slotSound {s t : State} (h : Moves s t) : (∀ n, s.SlotSound n) → ∀ n, t.SlotSound n := by
  induction h with
  | steady h => exact fun hs n => (h n).slotSound (hs n)
  | slot n st r hst =>
    intro hs m
    by_cases h : n = m
    · subst h
      exact moveSlot_slotSound n st r (hs n).1 (fun hl hd => .inl (hst hl hd)) fun hl _ => (hs n).2 hl
    · exact (moveSlot_steady h st r _).slotSound (hs m)
  | @fence s n r =>
    intro hs m
    have hs' : ∀ k, (fenceLink n s).SlotSound k := fun k => (fenceLink_steady n s k).slotSound (hs k)
    by_cases h : n = m
    · subst h
      refine moveSlot_slotSound n .fenced r (hs' n).1 (fun hl _ => .inr ?_) fun hl _ => (hs' n).2 hl
      have hlive : live s n = true := (fenceLink_steady n s n).live_eq ▸ hl
      have hw : (withdrawRead n s).links = s.links := (slotPart_iff.1 (withdrawRead_slotPart n s)).2.1
      unfold fenceLink
      rw [State.modLink_get_self, hw]
      exact fencePort_idle ((hs n).1 (linkEnabled_of_live hlive))
    · exact (moveSlot_steady h .fenced r _).slotSound (hs' m)
  | @opens s n r d =>
    intro hs m
    by_cases h : n = m
    · subst h
      refine moveSlot_slotSound n .active r (fun _ => ?_) (fun _ hd => nomatch hd) fun _ hd => nomatch hd
      rw [State.modLink_get_self]; exact nofun
    · exact ((modLink_steady_ne h _ s).trans (moveSlot_steady h .active r _)).slotSound (hs m)
  | trans _ _ ih1 ih2 => exact ih2 ∘ ih1

end Sys2Proof.Machine
end

section
/-! SUPPORT. The swap sequencer's, the alarm unit's and the admission unit's operations as moves, and so every event whose own
act is one. -/

namespace Sys2Proof.Machine

open Sys2Proof

/-! ## The swap sequencer (chapter 8) -/

theorem reportSwap_moves (n : SlotId) (st : SwapState) (c : Reason) (s : State) : Moves s (reportSwap n st c s).1 :=
  handSwapNotice_moves n st c s

/-- A change of swap state is a move where its own effects are. -/
theorem changeSwap_moves {s₀ s : State} {n : SlotId} {st : SwapState} {r : Reason} (hm : Moves s₀ (moveSlot n st r s).1)
    (c : Reason) {own : State → State} (ho : ∀ t, Moves t (own t)) : Moves s₀ (changeSwap n st r c own s).1 :=
  hm.trans ((ho _).trans (reportSwap_moves n st c _))

/-- A change of slot n's record that keeps its swap state. -/
theorem modSwap_moves (s : State) (n : SlotId) {f : Swap → Swap} (h : (f s.swaps[n]).state = s.swaps[n].state) :
    Moves s (s.modSwap n f) := moves_of_slotPart (modSwap_slotPart s n h)

theorem startTimer_moves (n : SlotId) (ms : Nat) (s : State) : Moves s (startTimer n ms s) := modSwap_moves s n rfl

theorem clearDraw_moves (n : SlotId) (s : State) : Moves s (clearDraw n s) := .steady (clearDraw_steady n s)

theorem attachSlot_moves (n : SlotId) (s : State) : Moves s (attachSlot n s) := by
  refine .steady (steady_queues s _ fun q hq => ?_)
  rw [ofFn_get, attachedQueue] at hq
  split at hq
  · cases hq
  · exact hq

theorem enterOff_moves (n : SlotId) (c : Reason) (s : State) : Moves s (enterOff n c s).1 :=
  changeSwap_moves (.slot n .off c fun _ _ => rfl) c (clearDraw_moves n)

theorem enterSeated_moves (n : SlotId) (s : State) : Moves s (enterSeated n s).1 :=
  changeSwap_moves (.slot n .seated .noReason fun _ _ => rfl) _ .refl

theorem takeSeat_moves (n : SlotId) (s : State) : Moves s (takeSeat n s).1 := by
  refine Eff.andThen_moves (enterSeated_moves n s) fun t => ?_
  split
  · exact enterOff_moves n .policy t
  · exact .refl t

theorem enterPowering_moves (n : SlotId) (s : State) : Moves s (enterPowering n s).1 :=
  changeSwap_moves (.slot n .powering .noReason fun _ _ => rfl) _ fun t =>
    (startTimer_moves n t.cfg.rampTimeout t).trans (moves_of_slotPart rfl)

theorem admitSlot_moves (n : SlotId) (s : State) : Moves s (admitSlot n s).1 := by
  unfold admitSlot; split
  · exact Eff.andThen_moves (enterSeated_moves n s) (enterPowering_moves n)
  · exact enterPowering_moves n s

/-- A POWERING slot was not live, so it leaves nothing behind as it enters LINKING (R134). -/
theorem takeRampEnd_moves {n : SlotId} {s : State} (h : s.swaps[n].state = .powering) : Moves s (takeRampEnd n s).1 := by
  refine changeSwap_moves (.slot n .linking .noReason fun hl => ?_) _ fun t => startTimer_moves n t.cfg.linkTimeout t
  rw [live, h] at hl; cases hl

/-- What entry to ACTIVE adds: the realign limit ended where the link is OPEN, and the queue tracker told (R135, R143). -/
theorem activated_moves (n : SlotId) (b : Bool) (t : State) :
    Moves t (let s2 := t.modSwap n (endRealign (decide (t.links[n].state = .opened))); if b then s2 else attachSlot n s2) := by
  have h := modSwap_moves t n (f := endRealign (decide (t.links[n].state = .opened))) rfl
  dsimp only; split
  · exact h
  · exact h.trans (attachSlot_moves n _)

theorem takeActivate_moves (n : SlotId) (s : State) : Moves s (takeActivate n s).1 :=
  changeSwap_moves (.slot n .active .noReason fun _ h => absurd h (by decide)) _ (activated_moves n (live s n))

theorem takeTurnOff_moves (n : SlotId) (c : Reason) (s : State) : Moves s (takeTurnOff n c s).1 := by
  refine Eff.andThen_moves (enterOff_moves n c s) fun t => ?_
  split
  · exact takeSeat_moves n t
  · exact .refl t

theorem takePowerDown_moves (n : SlotId) (s : State) : Moves s (takePowerDown n s).1 := takeTurnOff_moves n _ s

theorem takeFence_moves (n : SlotId) (s : State) : Moves s (takeFence n s).1 := by
  unfold takeFence
  refine Eff.andThen_moves ?_ fun t => ?_
  · exact changeSwap_moves (.fence n _) _ fun t => startTimer_moves n t.cfg.powerDownDelay t
  · split
    · exact takePowerDown_moves n t
    · exact .refl t

theorem takeQuiesce_moves (n : SlotId) (c : Reason) (s : State) : Moves s (takeQuiesce n c s).1 := by
  refine Eff.andThen_moves ?_ fun t => ?_
  · exact changeSwap_moves (.slot n .quiescing c fun _ h => absurd h (by decide)) c fun t =>
      startTimer_moves n t.cfg.drainTimeout t
  · split
    · exact takeFence_moves n t
    · exact .refl t

theorem takeFaulted_moves (n : SlotId) (c : Reason) (s : State) : Moves s (takeFaulted n c s).1 :=
  changeSwap_moves (.slot n .faulted c fun _ _ => rfl) c fun t => (clearDraw_moves n t).trans (modSwap_moves _ n rfl)

theorem takeLockOut_moves (n : SlotId) (s : State) : Moves s (takeLockOut n s).1 :=
  changeSwap_moves (.slot n .lockedOut _ fun _ _ => rfl) _ .refl

theorem takeUnseat_moves (n : SlotId) (s : State) : Moves s (takeUnseat n s).1 :=
  changeSwap_moves (.slot n .empty .noReason fun _ _ => rfl) _ (clearDraw_moves n)

theorem takeLinkOpen_moves (n : SlotId) (s : State) : Moves s (takeLinkOpen n s).1 := by
  unfold takeLinkOpen; split
  · exact takeActivate_moves n s
  · exact modSwap_moves s n rfl
  · exact modSwap_moves s n rfl
  · exact .refl s

theorem takeBackoff_moves (n : SlotId) (s : State) : Moves s (takeBackoff n s).1 := by
  unfold takeBackoff; split
  · exact takeSeat_moves n s
  · exact takeLockOut_moves n s

/-! ## The slot lines (R127, R128) -/

theorem presentActs_moves (n : SlotId) (b : Bool) (s : State) : Moves s (presentActs n b s).1 := by
  unfold presentActs; split_ifs
  · exact takeSeat_moves n s
  · exact .refl s
  · exact .refl s
  · exact takeUnseat_moves n s

theorem judgePresentLine_moves (n : SlotId) (b : Bool) (s : State) : Moves s (judgePresentLine n b s).1 := by
  have h : ∀ k j, Moves s (s.modSwap n fun w => { w with present := k, presentCount := j }) :=
    fun k j => modSwap_moves s n rfl
  unfold judgePresentLine; dsimp only; split
  · exact (h _ _).trans (presentActs_moves n b _)
  · exact h _ _

theorem judgeFaultLine_moves (n : SlotId) (b : Bool) (s : State) : Moves s (judgeFaultLine n b s).1 := by
  unfold judgeFaultLine; split
  · exact takeFaulted_moves n _ s
  · exact .refl s

theorem pgoodActs_moves (n : SlotId) (s : State) : Moves s (pgoodActs n s).1 := by
  unfold pgoodActs; split_ifs with h1 h2
  · exact takeRampEnd_moves h1.1
  · exact takeFaulted_moves n _ s
  · exact .refl s

theorem judgePgoodLine_moves (n : SlotId) (b : Bool) (s : State) : Moves s (judgePgoodLine n b s).1 :=
  (modSwap_moves s n (f := countPgood b) rfl).trans (pgoodActs_moves n _)

theorem latchOpens_moves (n : SlotId) (s : State) : Moves s (latchOpens n s).1 := by
  unfold latchOpens; split
  · exact takeTurnOff_moves n _ s
  · exact takeTurnOff_moves n _ s
  · exact takeQuiesce_moves n _ s
  · dsimp only; exact modSwap_moves s n rfl
  · exact .refl s

theorem latchCloses_moves (n : SlotId) (s : State) : Moves s (latchCloses n s).1 := by
  unfold latchCloses; split
  · split
    · exact takeActivate_moves n s
    · exact .refl s
  · split
    · exact takeSeat_moves n s
    · exact .refl s
  · exact .refl s

theorem judgeLatchLine_moves (n : SlotId) (b : Bool) (s : State) : Moves s (judgeLatchLine n b s).1 := by
  have h : ∀ k j, Moves s (s.modSwap n fun w => { w with latchClosed := k, latchCount := j }) :=
    fun k j => modSwap_moves s n rfl
  unfold judgeLatchLine; dsimp only; split_ifs
  · exact (h _ _).trans (latchCloses_moves n _)
  · exact (h _ _).trans (latchOpens_moves n _)
  · exact h _ _

theorem sampleSlot_moves (n : SlotId) (l : Lines) (s : State) : Moves s (sampleSlot n l s).1 :=
  Eff.andThen_moves (Eff.andThen_moves (Eff.andThen_moves
    ((modSwap_moves s n rfl).trans (judgePresentLine_moves n _ _)) (judgeFaultLine_moves n _)) (judgePgoodLine_moves n _))
    (judgeLatchLine_moves n _)

/-! ## The slot commands and the policy (R130) -/

theorem takePowerOn_moves (n : SlotId) (s : State) : Moves s (takePowerOn n s).1 := by
  have h := modSwap_moves s n (f := fun w => { w with powerRequest := true }) rfl
  unfold takePowerOn; dsimp only; split
  · exact h.trans (takeSeat_moves n _)
  · exact h

theorem takeRemove_moves (n : SlotId) (s : State) : Moves s (takeRemove n s).1 := by
  have h := modSwap_moves s n (f := fun w => { w with powerRequest := false }) rfl
  refine h.trans ?_
  unfold takeRemove; dsimp only; split
  · exact takeTurnOff_moves n _ _
  · exact takeTurnOff_moves n _ _
  · exact takeTurnOff_moves n _ _
  · exact takeQuiesce_moves n _ _
  · exact modSwap_moves _ n rfl
  · exact modSwap_moves _ n rfl
  · exact takeTurnOff_moves n _ _
  · exact .refl _

theorem takeSlotCommand_moves (n : SlotId) (w : Word) (s : State) : Moves s (takeSlotCommand n w s).1 := by
  unfold takeSlotCommand; split
  · exact takePowerOn_moves n s
  · exact takeRemove_moves n s
  · unfold takeClearLockout; split
    · exact (modSwap_moves s n rfl).trans (takeSeat_moves n _)
    · exact .refl s
  · exact .refl s

theorem policyActs_moves (n : SlotId) (old : Policy) (s : State) : Moves s (policyActs n old s).1 := by
  unfold policyActs; split
  · split
    · exact takeTurnOff_moves n _ s
    · exact takeTurnOff_moves n _ s
    · exact takeTurnOff_moves n _ s
    · exact takeQuiesce_moves n _ s
    · exact modSwap_moves s n rfl
    · exact modSwap_moves s n rfl
    · exact .refl s
  · split
    · exact takeSeat_moves n s
    · exact .refl s

/-! ## The alarm unit's points (chapter 10) -/

theorem setPoint_moves (p : PointId) (f : Point → Point) (s : State) : Moves s (setPoint p f s) :=
  moves_of_slotPart (by unfold setPoint; split <;> rfl)

theorem takeRecord_moves (d : LogDraft) (s : State) : Moves s (takeRecord d s).1 :=
  moves_of_slotPart (by unfold takeRecord; dsimp only; split_ifs <;> rfl)

theorem reportChange_moves (p : PointId) (ch : Change) (s : State) : Moves s (reportChange p ch s).1 :=
  Eff.andThen_moves (handAll_moves _ (id := .alarm p) nofun _ s) (takeRecord_moves _)

theorem changePoint_moves (p : PointId) (f : Point → Point) (ch : Option Change) (s : State) :
    Moves s (changePoint p f ch s).1 := by
  unfold changePoint; split
  · exact (setPoint_moves p f s).trans (reportChange_moves p _ _)
  · exact setPoint_moves p f s

theorem raisePoint_moves (p : PointId) (ch : Change) (s : State) : Moves s (raisePoint p ch s).1 := changePoint_moves p _ _ s

theorem clearPoint_moves (p : PointId) (s : State) : Moves s (clearPoint p s).1 := changePoint_moves p _ _ s

theorem fallPoint_moves (p : PointId) (s : State) : Moves s (fallPoint p s).1 := by
  unfold fallPoint; split
  · exact clearPoint_moves p s
  · exact changePoint_moves p _ _ s

theorem judgePresent_moves (p : PointId) (s : State) : Moves s (judgePresent p s).1 := by
  unfold judgePresent; split
  · split
    · exact raisePoint_moves p _ s
    · exact changePoint_moves p _ _ s
  · exact .refl s
  · exact .refl s
  · exact changePoint_moves p _ _ s

theorem judgeAbsent_moves (p : PointId) (s : State) : Moves s (judgeAbsent p s).1 := by
  unfold judgeAbsent; split
  · exact .refl s
  · exact changePoint_moves p _ _ s
  · split
    · exact fallPoint_moves p s
    · exact .refl s
  · exact .refl s

theorem setCond_moves (p : PointId) (b : Bool) (s : State) : Moves s (setCond p b s).1 := by
  have h : Moves s (s.modPoint p fun q => { q with cond := b }) := moves_of_slotPart rfl
  refine h.trans ?_
  unfold setCond; dsimp only; split_ifs
  · exact judgePresent_moves p _
  · exact judgeAbsent_moves p _
  · exact .refl _

theorem takeEvent_moves (p : PointId) (s : State) : Moves s (takeEvent p s).1 := by
  unfold takeEvent; split
  · split <;> exact raisePoint_moves p _ s
  · exact .refl s

theorem inputAct_moves (i : Input) (s : State) : Moves s (inputAct i s).1 := by
  cases i with
  | event p => exact takeEvent_moves p s
  | cond p b =>
    simp only [inputAct, takeCond]; split
    · exact .refl s
    · exact setCond_moves p b s
  | recond p b => exact setCond_moves p b s
  | logLoss =>
    simp only [inputAct, takeLogLoss]; split
    · exact .refl s
    · exact takeEvent_moves 57 s

theorem releasePoint_moves (p : PointId) (s : State) : Moves s (releasePoint p s).1 := by
  unfold releasePoint; split
  · exact fallPoint_moves p s
  · exact .refl s

theorem ackPoint_moves (p : PointId) (s : State) : Moves s (ackPoint p s).1 := by
  unfold ackPoint; split
  · exact Eff.andThen_moves (changePoint_moves p _ _ s) (releasePoint_moves p)
  · exact .refl s

theorem disablePoint_moves (p : PointId) (s : State) : Moves s (disablePoint p s).1 := by
  unfold disablePoint; split_ifs
  · exact clearPoint_moves p s
  · exact changePoint_moves p _ _ s
  · exact .refl s

theorem pointActs_moves (p : PointId) (old new : PointCfg) (s : State) : Moves s (pointActs p old new s).1 := by
  unfold pointActs; split_ifs
  · exact disablePoint_moves p s
  · exact judgePresent_moves p s
  · exact .refl s
  · exact .refl s
  · exact judgeAbsent_moves p s
  · exact .refl s

/-! ## The admission unit (chapter 9) -/

theorem markSheds_moves (k : Nat) (s : State) : Moves s (markSheds k s).1 := by
  induction k generalizing s with
  | zero => exact .refl s
  | succ k ih =>
    unfold markSheds; split
    · split
      · exact (moves_of_slotPart rfl : Moves s (s.modAdm _ _)).trans (ih _)
      · exact .refl s
    · exact .refl s

theorem takeShed_moves (n : SlotId) (s : State) : Moves s (takeShed n s).1 := by
  unfold takeShed; split
  · exact takeTurnOff_moves n _ s
  · exact takeTurnOff_moves n _ s
  · exact takeQuiesce_moves n _ s
  · dsimp only; exact modSwap_moves s n rfl
  · exact .refl s

theorem formBudget_moves (s : State) : Moves s (formBudget s).1 :=
  (markSheds_moves 12 s).trans (foldEff_moves takeShed_moves _ _)

theorem tellShed_moves {act : State → Eff} {s : State} (h : Moves s (act s).1) : Moves s (tellShed act s).1 := by
  unfold tellShed; dsimp only; split
  · exact h
  · exact Eff.andThen_moves h fun t =>
      (moves_of_slotPart rfl : Moves t { t with onBattery := shedTriggered t }).trans (formBudget_moves _)

/-! ## Events -/

theorem takeInput_moves (i : Input) (s : State) : Moves s (takeInput i s).1 := tellShed_moves (inputAct_moves i s)

/-- An event moves on from where its own act leaves the state. -/
theorem event_moves (act : State → Eff) (s : State) : Moves (act s).1 (event act s) :=
  event_keeps (Moves (act s).1) (fun i t ht => ht.trans (takeInput_moves i t)) (fun n t _ ht => ht.trans (admitSlot_moves n t))
    (fun _ _ ht => ht.trans (moves_of_slotPart rfl)) act s (.refl _)

/-- An event moves where its own act does. -/
theorem moves_event {act : State → Eff} {s : State} (h : Moves s (act s).1) : Moves s (event act s) :=
  h.trans (event_moves act s)

end Sys2Proof.Machine
end

section
/-! SUPPORT. The other blocks' operations as moves: queues, staging, timebase, environment, memory port, windows and the control
shadow. -/

namespace Sys2Proof.Machine

open Sys2Proof

/-- A change of port n that every slot keeps what it has by. -/
theorem modLink_moves (s : State) (n : SlotId) {f : LinkPort → LinkPort}
    (h : PortSteady (live s n) s.links[n] (f s.links[n])) : Moves s (s.modLink n f) := .steady (steady_modLink s n f h)

theorem setWaiting_moves (s : State) (n : SlotId) (t : Option SlotTxn) : Moves s (s.setWaiting n t) := moves_of_slotPart rfl

/-! ## Links (chapter 1) -/

theorem loseAlignment_moves (n : SlotId) (s : State) : Moves s (loseAlignment n s) := by
  have h : Moves s ((withdrawRead n s).modLink n misalign) :=
    (moves_of_slotPart (withdrawRead_slotPart n s)).trans (modLink_moves _ n (misalign_steady _ _))
  unfold loseAlignment; dsimp only; split
  · refine h.trans (modSwap_moves _ n ?_)
    unfold startRealign; split <;> rfl
  · exact h

theorem failedFrame_moves (n : SlotId) (s : State) : Moves s (failedFrame n s) := by
  have h : Moves s (s.modLink n countFailure) := modLink_moves s n (portSteady_of_eq _ _ rfl rfl rfl)
  unfold failedFrame; split
  · exact .refl s
  · exact modLink_moves s n (portSteady_of_eq _ _ rfl rfl rfl)
  · exact .refl s
  · dsimp only; split
    · exact h.trans (loseAlignment_moves n _)
    · exact h

theorem voidEchoes_moves (s : State) : Moves s (voidEchoes s) :=
  .steady (steady_links s _ fun n => by rw [ofFn_get]; exact portSteady_of_eq _ _ rfl rfl rfl)

/-! ## Queues (chapter 3) -/

/-- A change of queue q under which it does not become OPEN. -/
theorem modQueue_moves (s : State) (q : QueueId) {f : Queue → Queue}
    (h : (f s.queues[q]).state = .opened → s.queues[q].state = .opened) : Moves s (s.modQueue q f) :=
  .steady (steady_modQueue s q f h)

theorem withdrawZeroing_slotPart (q : QueueId) (s : State) : (withdrawZeroing q s).slotPart = s.slotPart := by
  unfold withdrawZeroing; split <;> rfl

theorem takeOpen_moves (q : QueueId) (s : State) : Moves s (takeOpen q s) := by
  unfold takeOpen; dsimp only; split_ifs
  · exact .refl s
  · exact modQueue_moves s q id
  · exact modQueue_moves s q id
  · exact modQueue_moves s q nofun
  · exact modQueue_moves s q nofun

theorem takeClose_moves (q : QueueId) (s : State) : Moves s (takeClose q s) := by
  unfold takeClose; split
  · exact .refl s
  · exact ((modQueue_moves s q (f := fun x => { x with state := .closed }) nofun).trans
      (moves_of_slotPart (withdrawZeroing_slotPart q _))).trans
      (.steady (dropQueueNotices_steady q _))

theorem closeQueues_moves (s : State) : Moves s (closeQueues s) := by
  refine Moves.trans (.steady (steady_queues s (Vector.ofFn fun q => { s.queues[q] with state := .closed }) fun q hq => ?_))
    (moves_of_slotPart rfl)
  rw [ofFn_get] at hq; cases hq

theorem offerZeroing_moves (s : State) : Moves s (offerZeroing s) := by
  unfold offerZeroing; split
  · exact .refl s
  · split
    · rename_i q _
      exact (modQueue_moves s q (f := fun x => { x with offered := true }) id).trans (moves_of_slotPart rfl)
    · exact .refl s

theorem queueNotice_moves (k : QueueNotice) (q : QueueId) (m : Nat) (s : State) : Moves s (queueNotice k q m s).1 :=
  .steady (queueNotice_steady k q m s)

theorem readyNotices_moves (q : QueueId) (s : State) : Moves s (readyNotices q s).1 := by
  unfold readyNotices; dsimp only; split
  · exact queueNotice_moves _ _ _ s
  · exact Eff.andThen_moves (queueNotice_moves _ _ _ s) (queueNotice_moves _ _ _)

theorem producerAdvance_moves (q : QueueId) (new : Nat) (s : State) : Moves s (producerAdvance q new s).1 := by
  have h : ∀ b, Moves s (s.modQueue q fun x => { x with p := new, spaceWanted := x.spaceWanted || b }) :=
    fun b => modQueue_moves s q id
  unfold producerAdvance; dsimp only; split_ifs
  · exact (h _).trans (queueNotice_moves _ _ _ _)
  · exact h _

theorem producerOverrun_moves (q : QueueId) (s : State) : Moves s (producerOverrun q s).1 := by
  refine Eff.andThen_moves (Moves.trans (modQueue_moves s q ?_) (queueNotice_moves _ _ _ _)) fun t => .refl t
  exact id

theorem consumerAdvance_moves (q : QueueId) (new : Nat) (s : State) : Moves s (consumerAdvance q new s).1 := by
  have h : ∀ b, Moves s (s.modQueue q fun x => { x with c := new, overrun := false, spaceWanted := x.spaceWanted && b }) :=
    fun b => modQueue_moves s q id
  unfold consumerAdvance; dsimp only; split
  · exact (h _).trans (queueNotice_moves _ _ _ _)
  · exact h _

theorem judgeIndex_moves (n : SlotId) (q : QueueId) (b : Bool) (new : Nat) (s : State) :
    Moves s (judgeIndex n q b new s).eff.1 := by
  unfold judgeIndex; dsimp only; split_ifs
  · exact .refl s
  · exact .refl s
  · exact .refl s
  · exact producerAdvance_moves q new s
  · exact producerOverrun_moves q s
  · exact .refl s
  · exact .refl s
  · exact consumerAdvance_moves q new s
  · exact .refl s

/-! ## Staging (chapter 5) -/

/-- A change of the staging list under which a slot in no origin set comes into none unless it is live. -/
theorem staged_moves (s : State) (l : List Staged)
    (h : ∀ n : SlotId, live s n = false → s.Unstaged n → ∀ e ∈ l, e.origin.getLsbD n.val = false) :
    Moves s { s with staged := l } := .steady (steady_staged s l h)

/-- Entries removed. -/
theorem filterStaged_moves (s : State) (p : Staged → Bool) : Moves s { s with staged := s.staged.filter p } :=
  staged_moves s _ fun _ _ hu e he => hu e (List.mem_filter.1 he).1

theorem modGroup_moves (s : State) (g : GroupId) (f : Group → Group) : Moves s (s.modGroup g f) := moves_of_slotPart rfl

/-- The bit of slot n is no other slot's. -/
theorem slotBit_ne {n m : SlotId} (h : n ≠ m) : (1#12 <<< n.val).getLsbD m.val = false := by
  have h' : n.val ≠ m.val := fun e => h (Fin.ext e)
  simp only [BitVec.getLsbD_shiftLeft, BitVec.getLsbD_one]
  simp; omega

/-- A staged word is taken from a live slot alone, which joins the origin set (R74, R75, R90). -/
theorem takeStaged_moves (n : SlotId) (g : GroupId) (a : Nat) (d : Word) (be : Mask) (s : State) :
    Moves s (takeStaged n g a d be s) := by
  unfold takeStaged; dsimp only
  split_ifs with hno hmerge hroom
  · exact .refl s
  · refine staged_moves s _ fun m hm hu e he => ?_
    obtain ⟨x, hx, rfl⟩ := List.mem_map.1 he
    have hne : n ≠ m := fun h => hno (.inr (.inl (h ▸ hm)))
    split
    · simp only [mergeStaged, BitVec.getLsbD_or, hu x hx, slotBit_ne hne, Bool.or_self]
    · exact hu x hx
  · refine Moves.trans (staged_moves s _ fun m hm hu e he => ?_) (modGroup_moves _ g _)
    have hne : n ≠ m := fun h => hno (.inr (.inl (h ▸ hm)))
    rcases List.mem_append.1 he with he | he
    · exact hu e he
    · rw [List.mem_singleton.1 he]; exact slotBit_ne hne
  · exact modGroup_moves s g _

theorem dropGathering_moves (g : GroupId) (s : State) : Moves s (dropGathering g s) := filterStaged_moves s _

theorem takeArmWord_moves (g : GroupId) (d : Word) (be : Mask) (s : State) : Moves s (takeArmWord g d be s) := by
  unfold takeArmWord; split
  · split
    · exact modGroup_moves s g _
    · exact modGroup_moves s g _
    · exact (dropGathering_moves g s).trans (modGroup_moves _ g _)
    · exact .refl s
  · exact .refl s

theorem takeStagingWord_moves (n : SlotId) (s : State) (k : StagingWord) : Moves s (takeStagingWord n s k) := by
  cases k with
  | staged g a d be => exact takeStaged_moves n g a d be s
  | arm g d be => exact takeArmWord_moves g d be s

theorem handStaging_moves (n : SlotId) : ∀ (ks : List StagingWord) (s : State), Moves s (handStaging n ks s)
  | [], s => .refl s
  | k :: rest, s => (takeStagingWord_moves n s k).trans (handStaging_moves n rest _)

theorem takeDue_moves (g : GroupId) (s : State) : Moves s (takeDue g s).1 := by
  unfold takeDue; dsimp only; split
  · exact Eff.andThen_moves (((dropGathering_moves g s).trans (modGroup_moves _ g _)).trans (handCommitDone_moves g _ _ _))
      fun t => .refl t
  · exact moves_of_slotPart rfl

theorem judgeHolds_moves (s : State) : Moves s (judgeHolds s) := moves_of_slotPart rfl

theorem dueGroups_moves (f : Nat) (s : State) : Moves s (dueGroups f s).1 := by
  refine Moves.trans (foldEff_moves (fun g t => ?_) _ s) (judgeHolds_moves _)
  split
  · exact takeDue_moves g t
  · exact .refl t

theorem disarmGroups_moves (s : State) : Moves s (disarmGroups s).1 := by
  refine foldEff_moves (fun g t => ?_) _ s
  split
  · exact (modGroup_moves t g _).trans (handCommitDone_moves g _ _ _)
  · exact .refl t

/-- A WARM_RESET empties ports, queues, lists and staging (R194). -/
theorem carryOutWarm_moves (s : State) : Moves s (carryOutWarm s) := by
  have hlinks : Moves s (warmLinks s) := by
    refine Moves.trans (.steady (steady_links s (Vector.ofFn fun n => warmPort s.links[n]) fun n => ?_)) (moves_of_slotPart rfl)
    rw [ofFn_get]; exact warmPort_steady _ _
  have hlists : ∀ t, Moves t (emptyLists t) := fun t => by
    refine .steady (steady_lists t (Vector.replicate 12 NoticeList.blank) fun n => ?_)
    rw [show (Vector.replicate 12 NoticeList.blank)[n] = NoticeList.blank from Vector.getElem_replicate _]
    exact ⟨fun _ => blank_ok, fun _ _ => rfl⟩
  have hstaging : ∀ t, Moves t (warmStaging t) := fun t =>
    (staged_moves t [] fun _ _ _ _ he => absurd he List.not_mem_nil).trans (moves_of_slotPart rfl)
  exact (((hlinks.trans (closeQueues_moves _)).trans (hlists _)).trans (hstaging _)).trans (moves_of_slotPart rfl)

theorem takeWarm_moves (s : State) : Moves s (takeWarm s) := by
  unfold takeWarm; split
  · exact moves_of_slotPart rfl
  · exact carryOutWarm_moves s

theorem warmIfDue_moves (s : State) : Moves s (warmIfDue s) := by
  unfold warmIfDue; split
  · exact carryOutWarm_moves s
  · exact .refl s

theorem closeRound_moves (g : GroupId) (s : State) : Moves s (closeRound g s).1 := by
  have h1 : Moves s { s with staged := s.staged.map (makeCurrent g) } := staged_moves s _ fun n _ hu e he => by
    obtain ⟨x, hx, rfl⟩ := List.mem_map.1 he
    unfold makeCurrent; split <;> exact hu x hx
  have h2 : ∀ (t : State) (f : Group → Group),
      Moves t (({ t with rounds := t.rounds.tail, serving := false } : State).modGroup g f) := fun t f => moves_of_slotPart rfl
  exact (h1.trans (h2 _ _)).trans (handCommitDone_moves g _ _ _)

theorem serveRound_moves (g : GroupId) (s : State) : Moves s (serveRound g s).1 := by
  unfold serveRound; split
  · exact Eff.andThen_moves (closeRound_moves g s) fun t => (judgeHolds_moves t).trans (warmIfDue_moves _)
  · exact moves_of_slotPart rfl

/-! ## The memory port (section 2.6) -/

theorem takeGrant_moves (s : State) : Moves s (takeGrant s) := by
  unfold takeGrant; split
  · exact .refl s
  · split
    · exact moves_of_slotPart rfl
    · exact moves_of_slotPart rfl
    · exact moves_of_slotPart rfl
    · rename_i n _ _ _ _
      have h : ∀ p : MemPort, Moves s { s with port := p } := fun p => moves_of_slotPart rfl
      exact (h _).trans (handStaging_moves n _ _)
    · exact .refl s

theorem completeRead_moves (n : SlotId) (id : Nat) (as : List Nat) (s : State) : Moves s (completeRead n id as s) := by
  refine Moves.trans (moves_of_slotPart rfl : Moves s (freePort s)) (modLink_moves _ n ?_)
  exact ⟨fun h => h, fun _ ⟨hs, hb, hr⟩ => ⟨hs, hb, List.map_eq_nil_iff.2 hr⟩⟩

theorem completeCommit_moves (ws : List WriteWord) (s : State) : Moves s (completeCommit ws s).1 := by
  have h : Moves s { freePort s with mem := writeWords s.mem ws } := moves_of_slotPart rfl
  unfold completeCommit; dsimp only; split
  · exact (h.trans (filterStaged_moves _ _)).trans (serveRound_moves _ _)
  · exact h

/-! ## The timebase (chapters 6 and 7) -/

theorem chooseActive_slotPart (s : State) : (chooseActive s).1.slotPart = s.slotPart := by
  unfold chooseActive; dsimp only; split
  · split_ifs <;> rfl
  · rfl
  · rfl

theorem takeRefConfig_moves (r : RefId) (e : Bool) (p : Nat) (s : State) : Moves s (takeRefConfig r e p s).1 := by
  refine moves_of_slotPart ((chooseActive_slotPart _).trans ?_)
  dsimp only; split <;> rfl

theorem adjustTime_moves (x : Int) (s : State) : Moves s (adjustTime x s) := by
  have h : ∀ (t : Timebase) (v : Vector Reference 2), Moves s { s with time := t, refs := v } := fun t v =>
    moves_of_slotPart rfl
  exact (h _ _).trans (voidEchoes_moves _)

theorem time_moves (s : State) (t : Timebase) : Moves s { s with time := t } := moves_of_slotPart rfl

theorem acquireAct_moves (e : Int) (s : State) : Moves s (acquireAct e s) := by
  unfold acquireAct; split
  · exact (adjustTime_moves _ s).trans (time_moves _ _)
  · exact time_moves s _

theorem lockedAct_slotPart (e : Int) (s : State) : (lockedAct e s).slotPart = s.slotPart := by
  unfold lockedAct; split_ifs <;> rfl

theorem loopAct_moves (r : RefId) (cap : Stamp) (s : State) : Moves s (loopAct r cap s) := by
  unfold loopAct; dsimp only; split
  · exact (time_moves s _).trans (moves_of_slotPart (lockedAct_slotPart _ _))
  · exact (time_moves s _).trans (acquireAct_moves _ _)
  · exact (time_moves s _).trans (acquireAct_moves _ _)
  · exact (time_moves s _).trans (acquireAct_moves _ _)

theorem pulseActs_moves (r : RefId) (cap : Stamp) (b : Option RefId) (s : State) : Moves s (pulseActs r cap b s) := by
  unfold pulseActs; split
  · exact (adjustTime_moves _ s).trans (time_moves _ _)
  · split
    · exact loopAct_moves r cap s
    · exact .refl s

theorem tickGroups_moves (disc : Bool) (s : State) : Moves s (tickGroups disc s).1 := by
  unfold tickGroups; split
  · exact disarmGroups_moves s
  · exact dueGroups_moves _ s

theorem handFrames_moves (disc : Bool) (s : State) : Moves s (handFrames disc s).1 :=
  handAll_moves _ (id := .frame) nofun _ s

theorem takeTick_moves (disc : Bool) (order : TickOrder) (s : State) : Moves s (takeTick disc order s).1 := by
  have h : Moves s { s with frame := frameOf s.time.sec s.time.ns } := moves_of_slotPart rfl
  unfold takeTick; dsimp only; split
  · exact .refl s
  · split
    · exact h.trans (Eff.andThen_moves (tickGroups_moves disc _) (handFrames_moves disc))
    · exact h.trans (Eff.andThen_moves (handFrames_moves disc _) (tickGroups_moves disc))

theorem modRef_moves (s : State) (r : RefId) (f : Reference → Reference) : Moves s (s.modRef r f) := moves_of_slotPart rfl

theorem judgePulse_moves (r : RefId) (cap : Stamp) (order : TickOrder) (s : State) :
    Moves s (judgePulse r cap order s).1 := by
  unfold judgePulse; dsimp only; split
  · exact (((modRef_moves s r _).trans (moves_of_slotPart (chooseActive_slotPart _))).trans (pulseActs_moves r cap _ _)).trans
      (takeTick_moves true order _)
  · exact moves_of_slotPart rfl

theorem takePulse_moves (r : RefId) (order : TickOrder) (s : State) : Moves s (takePulse r order s).1 := by
  unfold takePulse; split
  · split
    · exact (modRef_moves s r _).trans (judgePulse_moves r _ order _)
    · exact .refl s
  · exact .refl s

theorem takeMiss_moves (r : RefId) (s : State) : Moves s (takeMiss r s).1 := by
  unfold takeMiss; split
  · exact (modRef_moves s r _).trans (moves_of_slotPart (chooseActive_slotPart _))
  · exact moves_of_slotPart rfl

theorem takeHoldSecond_moves (s : State) : Moves s (takeHoldSecond s).1 := by
  unfold takeHoldSecond; dsimp only; split <;> exact time_moves s _

/-- A tick of the millisecond divider moves timers alone (R94). -/
theorem millisecond_moves (s : State) : Moves s (millisecond s) := by
  have hlinks : Moves s { s with links := Vector.ofFn fun n => tickLink s.links[n] } :=
    .steady (steady_links s _ fun n => by rw [ofFn_get]; exact portSteady_of_eq _ _ rfl rfl rfl)
  refine hlinks.trans (moves_of_slotPart (slotPart_iff.2 ⟨fun n => ?_, rfl, rfl, rfl, fun _ => rfl, rfl⟩))
  show (Vector.ofFn fun m => tickSwap s.swaps[m])[n].state = _
  rw [ofFn_get]; rfl

theorem takePeriod_moves (order : TickOrder) (s : State) : Moves s (takePeriod order s).1 := by
  have h1 : Moves s (advancePeriod s) := moves_of_slotPart rfl
  have h2 : ∀ t, Moves t (countPeriod t) := fun t => by
    unfold countPeriod; split
    · exact (time_moves t _).trans (millisecond_moves _)
    · exact time_moves t _
  exact (h1.trans (h2 _)).trans (takeTick_moves false order _)

/-! ## The environment (chapter 11) -/

theorem startPass_slotPart (s : State) : (startPass s).slotPart = s.slotPart := by unfold startPass; split <;> rfl

theorem nextChannel_slotPart (j : ChannelId) (s : State) : (nextChannel j s).slotPart = s.slotPart := by
  unfold nextChannel; split
  · rfl
  · unfold endPass; split
    · exact startPass_slotPart _
    · rfl

theorem takeScanNow_moves (s : State) : Moves s (takeScanNow s) := by
  unfold takeScanNow; split
  · exact moves_of_slotPart rfl
  · exact moves_of_slotPart (startPass_slotPart s)

theorem takeInterval_moves (s : State) : Moves s (takeInterval s) := by
  unfold takeInterval; dsimp only; split
  · exact moves_of_slotPart rfl
  · exact moves_of_slotPart (startPass_slotPart _)

theorem takeChannelConfig_moves (j : ChannelId) (new : ChannelCfg) (s : State) : Moves s (takeChannelConfig j new s).1 := by
  refine moves_of_slotPart ?_
  unfold takeChannelConfig; dsimp only; split_ifs
  · exact nextChannel_slotPart j _
  · rfl
  · exact nextChannel_slotPart j _
  · rfl

/-! ## Windows (chapter 2) -/

theorem recordWorst_moves (n : SlotId) (ps : List Placed) (s : State) : Moves s (recordWorst n ps s).1 :=
  moves_of_slotPart (by unfold recordWorst; split <;> rfl)

theorem appendWord_moves (n : SlotId) (w : WriteWord) (s : State) : Moves s (appendWord n w s) :=
  moves_of_slotPart (by unfold appendWord; split <;> rfl)

theorem keepOrHand_moves (n : SlotId) (ks : List StagingWord) (s : State) : Moves s (keepOrHand n ks s) := by
  unfold keepOrHand; split
  · exact setWaiting_moves s n _
  · exact handStaging_moves n ks s

/-- A READ joins the outstanding reads of an OPEN port (R9, R11). -/
theorem takeRead_moves {n : SlotId} {s : State} (h : s.links[n].state = .opened) (tag : Byte) (addr : Word) (count : Nat) :
    Moves s (takeRead n tag addr count s).1 := by
  have hlatch : ∀ b : Bool, Moves s (if b then takeLatch n s else s) ∧
      (if b then takeLatch n s else s).links[n].state = .opened := fun b => by
    cases b
    · exact ⟨.refl s, h⟩
    · exact ⟨moves_of_slotPart rfl, h⟩
  have hmarks : ∀ (ks : List Nat) (t : State), Moves t (takeMarks n ks t) := fun ks t => moves_of_slotPart rfl
  unfold takeRead; dsimp only
  obtain ⟨h1, h2⟩ := hlatch (takesLatch (placeBurst s readOutcome n addr count))
  exact (((h1.trans (modLink_moves _ n (acceptRead_steady _ _ _ h2))).trans (hmarks _ _)).trans
    (setWaiting_moves _ n _)).trans (recordWorst_moves n _ _)

/-! ## The control shadow (chapter 13) -/

/-- A change of the copy that leaves the descriptors alone. -/
theorem cfg_moves (s : State) {c : Cfg} (h : c.queues = s.cfg.queues) : Moves s { s with cfg := c } :=
  moves_of_slotPart (slotPart_iff.2 ⟨fun _ => rfl, rfl, rfl, rfl, fun _ => rfl, h⟩)

/-- A descriptor is written while its queue is CLOSED (R39). -/
theorem takeQueueWord_moves (q : QueueId) (k : Nat) (be : Mask) (w : Word) (s : State) :
    Moves s (takeQueueWord q k be w s) := by
  unfold takeQueueWord; split_ifs with hk hclosed
  · split
    · exact takeOpen_moves q s
    · exact takeClose_moves q s
    · exact .refl s
  · refine .steady fun n => ⟨rfl, PortSteady.refl _ _, ListSteady.refl _ _, fun _ hu => hu, fun _ hu x he hx => ?_⟩
    by_cases hq : q = x
    · subst hq; exact absurd (hclosed.symm.trans hx) nofun
    · refine hu x ?_ hx
      have hget : (s.cfg.queues.set q (judgeQueue s.cfg.queues[q] k be w))[x] = s.cfg.queues[x] :=
        Vector.getElem_set_ne _ _ fun e => hq (Fin.ext e)
      exact hget ▸ he
  · exact .refl s

theorem takeGroupWord_moves (g : GroupId) (k : Nat) (w : Word) (s : State) : Moves s (takeGroupWord g k w s) := by
  unfold takeGroupWord; dsimp only; split
  · exact .refl s
  · exact cfg_moves s rfl

theorem takeSlotWord_moves (n : SlotId) (k : Nat) (be : Mask) (w : Word) (s : State) :
    Moves s (takeSlotWord n k be w s).1 := by
  have h : ∀ v, Moves s { s with cfg := { s.cfg with slots := v } } := fun v => cfg_moves s rfl
  unfold takeSlotWord; dsimp only; split
  · split
    · exact (h _).trans (policyActs_moves n _ _)
    · exact h _
  · exact h _
  · exact takeSlotCommand_moves n w s
  · exact .refl s

theorem judgeRelays_moves (s : State) : Moves s (judgeRelays s) := moves_of_slotPart rfl

theorem takePointWord_moves (p : PointId) (k : Nat) (w : Word) (s : State) : Moves s (takePointWord p k w s).1 := by
  have h : Moves s (setPointCfg p k w s) := cfg_moves s rfl
  unfold takePointWord; split
  · exact tellShed_moves (Eff.andThen_moves (h.trans (pointActs_moves p _ _ _)) judgeRelays_moves)
  · exact h

theorem takeAckWord_moves (w : Word) (s : State) : Moves s (takeAckWord w s).1 :=
  foldEff_moves (fun p t => tellShed_moves (ackPoint_moves p t)) _ s

theorem takeLogWords_moves (w : Word) (s : State) :
    Moves s (takeLogBase w s) ∧ Moves s (takeLogCode w s) ∧ Moves s (takeLogRead w s) := by
  refine ⟨moves_of_slotPart ?_, moves_of_slotPart ?_, moves_of_slotPart ?_⟩
  · unfold takeLogBase; dsimp only; split <;> rfl
  · unfold takeLogCode; dsimp only; split_ifs <;> rfl
  · unfold takeLogRead; split <;> rfl

theorem judgeSetting_queues (c : Cfg) (k : Nat) (w : Word) : (judgeSetting c k w).queues = c.queues := by
  unfold judgeSetting; split <;> rfl

theorem takeGlobalWord_moves (k : Nat) (w : Word) (s : State) : Moves s (takeGlobalWord k w s).1 := by
  obtain ⟨hbase, hcode, hread⟩ := takeLogWords_moves w s
  unfold takeGlobalWord; split
  · dsimp only; split
    · exact takeWarm_moves s
    · exact .refl s
  · exact takeAckWord_moves w s
  · dsimp only; split
    · exact takeScanNow_moves s
    · exact .refl s
  · dsimp only; split
    · exact time_moves s _
    · exact .refl s
  · exact moves_of_slotPart rfl
  · exact moves_of_slotPart rfl
  · exact moves_of_slotPart rfl
  · exact (cfg_moves s (c := judgeBudgets s.cfg w) rfl).trans (formBudget_moves _)
  · exact takeRefConfig_moves 0 _ _ s
  · exact takeRefConfig_moves 1 _ _ s
  · exact cfg_moves s rfl
  · exact hbase
  · exact hcode
  · exact hread
  · split_ifs
    · exact takeChannelConfig_moves _ _ s
    · exact moves_of_slotPart rfl
    · exact cfg_moves s (judgeSetting_queues s.cfg _ w)

/-- A region word taken, whatever its record (R191). -/
theorem takeRegion_moves (idx : RegionIdx) (d : Word) (be : Mask) (s : State) : Moves s (takeRegion idx d be s).1 := by
  unfold takeRegion takeFormed; split
  · exact takeGlobalWord_moves _ _ s
  · exact takeSlotWord_moves _ _ _ _ s
  · exact cfg_moves s rfl
  · exact takeQueueWord_moves _ _ _ _ s
  · exact takeGroupWord_moves _ _ _ s
  · exact takePointWord_moves _ _ _ s
  · exact .refl s

/-! ## The words of a WRITE (R27) -/

theorem recordFault_moves (n : SlotId) (a : Word) (k : AccessKind) (s : State) : Moves s (recordFault n a k s).1 :=
  moves_of_slotPart rfl

theorem showRegion_moves (n : SlotId) (sa : Word) (a : Nat) (d : Word) (be : Mask) (f : Bool) (s : State) :
    Moves s (showRegion n sa a d be f s).1 := by
  unfold showRegion; split_ifs
  · exact .refl s
  · exact recordFault_moves n sa _ s
  · exact Eff.andThen_moves (takeRegion_moves _ d be s) (appendWord_moves n _)

theorem showIndex_moves (n : SlotId) (sa : Word) (a : Nat) (q : QueueId) (b : Bool) (d : Word) (be : Mask) (s : State) :
    Moves s (showIndex n sa a q b d be s).1 := by
  have happend : ∀ (c : Bool) (w : WriteWord) (t : State), Moves t (if c then appendWord n w t else t) := fun c w t => by
    cases c
    · exact .refl t
    · exact appendWord_moves n w t
  unfold showIndex; dsimp only
  refine Eff.andThen_moves (judgeIndex_moves n q b _ s) fun t => ?_
  split
  · exact (happend _ _ t).trans (recordFault_moves n sa _ _)
  · exact happend _ _ t

theorem showWord_moves (n : SlotId) (sa : Word) (a : Nat) (d : Word) (be : Mask) (f : Bool) (s : State) :
    Moves s (showWord n sa a d be f s).1 := by
  unfold showWord; split
  · exact showRegion_moves n sa a d be f s
  · split
    · exact showIndex_moves n sa a _ _ d be s
    · exact appendWord_moves n _ s

theorem showWords_moves (n : SlotId) : ∀ (rs : List Routed) (f : Bool) (s : State), Moves s (showWords n rs f s).1
  | [], _, s => .refl s
  | .mem sa a d be :: rest, f, s => Eff.andThen_moves (showWord_moves n sa a d be f s) (showWords_moves n rest _)
  | .staging _ :: rest, f, s => showWords_moves n rest f s

theorem takeWrite_moves (n : SlotId) (addr : Word) (first last : Mask) (data : List Word) (s : State) :
    Moves s (takeWrite n addr first last data s).1 :=
  Eff.andThen_moves (recordWorst_moves n _ s) fun t =>
    Eff.andThen_moves (showWords_moves n _ false t) (keepOrHand_moves n _)

end Sys2Proof.Machine
end

section
/-! PROOF. Every command but COLD_RESET as a chain of moves, given for ECHO_REPLY_ARRIVAL and ZEROING_COMPLETE what the swap
states and the queues say; and the statement about the notice lists. -/

namespace Sys2Proof.Machine

open Sys2Proof

/-! ## Commands that are taken only where a condition holds -/

theorem moves_if {p : Prop} [Decidable p] {s t : State} (h : p → Moves s t) : Moves s (if p then t else s) := by
  split
  · exact h ‹p›
  · exact .refl s

theorem moves_event_if {p : Prop} [Decidable p] {act : State → Eff} {s : State} (h : Moves s (act s).1) :
    Moves s (if p then event act s else s) := moves_if fun _ => moves_event h

/-- A command that answers a state it moves to. -/
theorem moves_of_next {s u t : State} (hu : Moves s u) (h : (.next u : Out) = .next t) : Moves s t := by cases h; exact hu

/-! ## READs, WRITEs and notices taken -/

theorem headRead_opened {s : State} {n : SlotId} {x : Byte × Word × Nat} (h : headRead s n = some x) :
    s.links[n].state = .opened := by
  unfold headRead at h
  split at h
  · rename_i hp
    simp only [idlePort, Bool.and_eq_true, decide_eq_true_eq] at hp
    exact hp.1.1
  · cases h

theorem takeHeadRead_moves (n : SlotId) (s : State) : Moves s (takeHeadRead n s) := by
  unfold takeHeadRead; split
  · rename_i h
    exact moves_event (takeRead_moves (headRead_opened h) _ _ _)
  · exact .refl s

theorem takeHeadWrite_moves (n : SlotId) (s : State) : Moves s (takeHeadWrite n s) := by
  unfold takeHeadWrite; split
  · exact (modLink_moves s n (popFrame_steady _ _)).trans (moves_event (takeWrite_moves n _ _ _ _ _))
  · exact .refl s

theorem requestArrives_moves (n : SlotId) (r : Request) (s : State) : Moves s (s.modLink n (requestArrives r)) :=
  modLink_moves s n (requestArrives_steady _ _ r)

theorem sendWrite_moves (o : Origin) (d : Word) (be : Mask) (s : State) : Moves s (sendWrite o d be s) :=
  (requestArrives_moves o.slot _ s).trans (takeHeadWrite_moves o.slot _)

theorem armWrite_moves (o : Origin) (g : GroupId) (d : Word) (be : Mask) (s : State) : Moves s (armWrite o g d be s) :=
  moves_if fun _ => sendWrite_moves o d be s

theorem regionWrite_moves (o : Origin) (idx : RegionIdx) (d : Word) (be : Mask) (s : State) :
    Moves s (regionWrite o idx d be s) := moves_if fun _ => sendWrite_moves o d be s

theorem wordWrite_moves (o : Origin) (idx : RegionIdx) (d : Word) (s : State) : Moves s (wordWrite o idx d s) :=
  regionWrite_moves o idx d _ s

theorem fieldWrite_moves (o : Origin) (idx : RegionIdx) (lo len v : Nat) (s : State) :
    Moves s (fieldWrite o idx lo len v s) := wordWrite_moves o idx _ s

theorem slotFieldWrite_moves (o : Origin) (n : SlotId) (lo len v : Nat) (be : Mask) (s : State) :
    Moves s (slotFieldWrite o n lo len v be s) := regionWrite_moves o _ _ be s

/-- The head notice leaves its list, which takes its RESYNC if it is left empty with its mark set (R67, R69). -/
theorem beginNotice_moves (n : SlotId) (s : State) : Moves s (beginNotice n s) := by
  unfold beginNotice; split
  · rename_i e rest h
    refine Moves.trans (.steady (steady_modList s n (fun l => resyncList { l with entries := rest })
      ⟨fun hl => resyncList_ok hl ?_, fun _ hb => ?_⟩)) (modLink_moves _ n (portSteady_of_eq _ _ rfl rfl rfl))
    · rw [h]; exact List.sublist_cons_self _ _
    · rw [hb] at h; cases h
  · exact .refl s

theorem handFence_moves (n : SlotId) (s : State) : Moves s (handFence n s).1 := by
  have h := modLink_moves s n (popFrame_steady (live s n) s.links[n])
  unfold handFence; split
  · exact h.trans (takeFence_moves n _)
  · exact h

/-! ## The two commands that need the swap states and the queues -/

/-- A reply that matches moves the state, or it opens a link that measures (R6, R16). -/
theorem judgeReply_cases (n : SlotId) (e : Echo) (k : Nat) (s : State) :
    Moves s (judgeReply n e k s).1 ∨
      s.links[n].state = .measuring ∧ ∃ d, (judgeReply n e k s).1 = (takeLinkOpen n (s.modLink n (openLink d))).1 := by
  unfold judgeReply; dsimp only; split_ifs with hvalid hm
  · exact .inr ⟨hm, _, rfl⟩
  · exact .inl (modLink_moves s n (portSteady_of_eq _ _ rfl rfl rfl))
  · exact .inl (modLink_moves s n (missEcho_steady _ _))

/-- A port after a frame that passes its check (R5). -/
def passedCheck (l : LinkPort) : LinkPort := { l with failRun := 0 }

theorem passedCheck_moves (n : SlotId) (s : State) : Moves s (s.modLink n passedCheck) :=
  modLink_moves s n (portSteady_of_eq _ _ rfl rfl rfl)

/-- A well-formed reply moves the state, or it opens the link of a port that measures, which the swap sequencer takes (R6,
R15). -/
theorem replyArrives_cases (n : SlotId) (seq : BitVec 16) (k : Nat) (s : State) :
    Moves s (replyArrives n seq k s).1 ∨
      s.links[n].state = .measuring ∧
        ∃ d, (replyArrives n seq k s).1 = (takeLinkOpen n ((s.modLink n passedCheck).modLink n (openLink d))).1 := by
  have hpassed := passedCheck_moves n s
  unfold replyArrives
  split
  · exact .inl (.refl s)
  · dsimp only; exact .inl (modLink_moves s n (portSteady_of_eq _ _ rfl rfl rfl))
  · exact .inl (.refl s)
  · dsimp only
    split
    · split
      · rename_i e _ _
        rcases judgeReply_cases n e k (s.modLink n passedCheck) with h | ⟨hm, hd⟩
        · exact .inl (hpassed.trans h)
        · rw [State.modLink_get_self] at hm
          exact .inr ⟨hm, hd⟩
      · exact .inl hpassed
    · exact .inl hpassed

/-- A link opens under a slot that is live, or that becomes so by it (R6, R135). -/
theorem linkOpens_moves {n : SlotId} {s : State} (hon : linkEnabled s.swaps[n].state = true)
    (hf : s.swaps[n].state ≠ .fenced) (d : Nat) : Moves s (takeLinkOpen n (s.modLink n (openLink d))).1 := by
  by_cases hl : s.swaps[n].state = .linking
  · have htake : takeLinkOpen n (s.modLink n (openLink d)) = takeActivate n (s.modLink n (openLink d)) := by
      unfold takeLinkOpen; rw [State.modLink_swaps, hl]
    rw [htake]
    exact changeSwap_moves (.opens n .noReason d) _ (activated_moves n _)
  · have hlive : live s n = true := by
      simp only [linkEnabled, decide_eq_true_eq] at hon
      simp only [live, liveState, decide_eq_true_eq]
      tauto
    have hport : PortSteady (live s n) s.links[n] (openLink d s.links[n]) :=
      ⟨fun h => absurd (show LinkState.opened = .off from h) nofun, fun h => by rw [hlive] at h; cases h⟩
    exact (modLink_moves s n hport).trans (takeLinkOpen_moves n _)

/-- A port that measures is of a slot with link enable on that is not FENCED (R3, R7). -/
theorem replyArrives_moves (n : SlotId) (seq : BitVec 16) (k : Nat) {s : State} (hs : s.OutputsFollow) :
    Moves s (replyArrives n seq k s).1 := by
  rcases replyArrives_cases n seq k s with h | ⟨hm, d, he⟩
  · exact h
  obtain ⟨-, -, hlink⟩ := hs
  obtain ⟨hoff, hfenced⟩ := hlink n
  rw [he]
  refine (passedCheck_moves n s).trans (linkOpens_moves ?_ (fun h => ?_) d)
  · by_contra h
    exact absurd (hm.symm.trans (hoff.2 (Bool.eq_false_iff.2 h))) nofun
  · exact absurd (hm.symm.trans (hfenced.2 h)) nofun

theorem replyArrives_listsOk (n : SlotId) (seq : BitVec 16) (k : Nat) {s : State} (hs : s.ListsOk) :
    (replyArrives n seq k s).1.ListsOk := by
  rcases replyArrives_cases n seq k s with h | ⟨-, d, he⟩
  · exact h.listsOk hs
  · rw [he]
    exact (takeLinkOpen_moves n ((s.modLink n passedCheck).modLink n (openLink d))).listsOk hs

theorem live_of_bothLive {s : State} {q : QueueId} {n : SlotId} (h : bothLive s q = true)
    (he : endpoint s.cfg.queues[q] n = true) : live s n = true := by
  have hnum : ∀ k, k = n.val → liveNumber s k = true → live s n = true := by
    rintro k rfl hk
    simpa [liveNumber, n.isLt] using hk
  simp only [bothLive, Bool.and_eq_true] at h
  simp only [endpoint, decide_eq_true_eq] at he
  rcases he with he | he
  · exact hnum _ he h.1
  · exact hnum _ he h.2

/-- A queue becomes OPEN with both endpoints live (R46). -/
theorem openQueue_moves {s : State} {q : QueueId} (h : bothLive s q = true) (f : Queue → Queue) : Moves s (s.modQueue q f) := by
  refine .steady fun n => ⟨rfl, PortSteady.refl _ _, ListSteady.refl _ _, fun _ hu => hu, fun hn hu x he => ?_⟩
  have hne : q ≠ x := by
    rintro rfl
    exact absurd (live_of_bothLive h he) (by rw [hn]; decide)
  rw [State.modQueue_get_ne _ _ _ _ hne]
  exact hu x he

theorem zeroed_moves {q : QueueId} {s : State} (h : s.queues[q].state = .opening → bothLive s q = true) :
    Moves s (zeroed q s).1 := by
  unfold zeroed; split
  · rename_i ho
    exact (openQueue_moves (h ho.1) _).trans (readyNotices_moves q _)
  · exact .refl s

theorem completeZeroing_moves (q : QueueId) (base : Nat) {s : State} (hs : s.QueuesOk) :
    Moves s (completeZeroing q base s).1 := by
  have h : Moves s { freePort s with mem := writeWords s.mem (wordsAt base [0#32, 0#32]) } := moves_of_slotPart rfl
  obtain ⟨-, -, -, hlive⟩ := hs q
  exact h.trans (zeroed_moves fun ho => hlive (.inl ho))

theorem zeroed_listsOk (q : QueueId) {s : State} (hs : s.ListsOk) : (zeroed q s).1.ListsOk := by
  unfold zeroed; split
  · exact (readyNotices_moves q _).listsOk hs
  · exact hs

/-! ## Every command -/

/-- Every command but COLD_RESET, ECHO_REPLY_ARRIVAL and ZEROING_COMPLETE is a chain of moves in every state. -/
theorem exec_moves {c : Instr} {s t : State} (hcold : ∀ x, c ≠ .coldReset x) (hecho : ∀ n q k, c ≠ .echoReplyArrival n q k)
    (hzero : c ≠ .zeroingComplete) (h : exec c s = .next t) : Moves s t := by
  cases c with
  | coldReset x => exact absurd rfl (hcold x)
  | echoReplyArrival n q k => exact absurd rfl (hecho n q k)
  | zeroingComplete => exact absurd rfl hzero
  -- writes of one word of the control region or of an arm word
  | warmReset | secondsLoad | openQueue | closeQueue | powerOn | removeSlot | clearLockout | ackPoint | ackAll | relayOn
  | relayOff | relayFollow | relayConfigWrite | scanNow | channelConfigWrite | logReadIndexWrite | windowRecordWrite =>
    exact moves_of_next (wordWrite_moves _ _ _ s) h
  | referenceEnableWrite | referencePriorityWrite | pointEnableWrite | pointLatchedWrite | pointSeverityWrite
  | pointRelayMarksWrite | pointShedTriggerWrite | senseModeWrite =>
    exact moves_of_next (fieldWrite_moves _ _ _ _ _ s) h
  | slotPolicyWrite | slotDrawWrite | shedPriorityWrite | controlRightWrite =>
    exact moves_of_next (slotFieldWrite_moves _ _ _ _ _ _ s) h
  | controlRegionWrite o idx data enables => exact moves_of_next (regionWrite_moves o idx data enables s) h
  | queueDescriptorWrite o q field =>
    refine moves_of_next ?_ h
    cases field with
    | base => exact wordWrite_moves o _ _ s
    | cellSize | cellCount | producer | consumer => exact fieldWrite_moves o _ _ _ _ s
    | high | low => exact regionWrite_moves o _ _ _ s
  | groupConfigWrite o g field =>
    refine moves_of_next ?_ h
    cases field with
    | base => exact wordWrite_moves o _ _ s
    | valid | size => exact fieldWrite_moves o _ _ _ _ s
  | budgetWrite o field =>
    refine moves_of_next ?_ h
    cases field <;> exact fieldWrite_moves o _ _ _ _ s
  | logConfigWrite o field =>
    refine moves_of_next ?_ h
    cases field <;> exact wordWrite_moves o _ _ s
  | armGroup | disarmGroup | discardGroup => exact moves_of_next (armWrite_moves _ _ _ _ s) h
  | armWordIgnored o g data enables => exact moves_of_next (moves_if fun _ => armWrite_moves o g data enables s) h
  -- resets, start-up and time
  | coldStartUpWriteComplete =>
    revert h; show execColdStartUpWriteComplete s = _ → _
    unfold execColdStartUpWriteComplete; split
    · exact moves_of_next (moves_event (moves_of_slotPart rfl))
    · exact moves_of_next (.refl s)
  | warmResetCarriedOut => exact moves_of_next (warmIfDue_moves s) h
  | localOscillatorPeriod order => exact moves_of_next (moves_event (takePeriod_moves order s)) h
  | continuousFrameTick order => exact moves_of_next (moves_event_if (takePeriod_moves order s)) h
  | pulseEvent r order => exact moves_of_next (moves_event (takePulse_moves r order s)) h
  | missTimerExpiry r => exact moves_of_next (moves_event_if (takeMiss_moves r s)) h
  | holdoverTimerExpiry => exact moves_of_next (moves_event_if (takeHoldSecond_moves s)) h
  | referenceLineEdge r rising => exact moves_of_next (moves_of_slotPart rfl : Moves s (lineEdge r rising s)) h
  -- links
  | readFrameArrival n | writeFrameArrival n =>
    refine moves_of_next ?_ h
    split
    · exact requestArrives_moves n _ s
    · exact failedFrame_moves n s
  | readyToFenceArrival n => exact moves_of_next (requestArrives_moves n _ s) h
  | idleArrival n => exact moves_of_next (modLink_moves s n (idleArrives_steady _ _)) h
  | frameCheckFailed n => exact moves_of_next (failedFrame_moves n s) h
  | echoReplyTimerExpiry n => exact moves_of_next (moves_event_if (modLink_moves s n (missEcho_steady _ _))) h
  | errorWindowEnd n => exact moves_of_next (moves_event_if (modLink_moves s n (endWindow_steady _ _ _))) h
  | sendGo n => exact moves_of_next (moves_if fun _ => modLink_moves s n (beginGo_steady _ _)) h
  | echoCadenceDue n | sendHold n | sendEcho n | sendIdle n =>
    exact moves_of_next (moves_if fun _ => modLink_moves s n (portSteady_of_eq _ _ rfl rfl rfl)) h
  | sendData n => exact moves_of_next (moves_if fun _ => modLink_moves s n (beginData_steady _ _)) h
  | sendNotice n => exact moves_of_next (moves_if fun _ => beginNotice_moves n s) h
  | transmitFrameEnd n => exact moves_of_next (modLink_moves s n (portSteady_of_eq _ _ rfl rfl rfl)) h
  | resyncAdd n => exact moves_of_next (.steady (steady_modList s n _ (resyncList_steady _ _))) h
  -- windows and the memory port
  | windowTakeRead n => exact moves_of_next (takeHeadRead_moves n s) h
  | windowTakeWrite n => exact moves_of_next (takeHeadWrite_moves n s) h
  | readyToFenceTaken n => exact moves_of_next (moves_event_if (handFence_moves n s)) h
  | timeWord0Read n | statusMarkRead n => exact moves_of_next (moves_if fun _ => takeHeadRead_moves n s) h
  | heldReadRelease n => exact moves_of_next (setWaiting_moves s n _) h
  | memoryGrant => exact moves_of_next (takeGrant_moves s) h
  | slotReadComplete =>
    revert h; show execSlotReadComplete s = _ → _
    unfold execSlotReadComplete; split
    · exact moves_of_next (completeRead_moves _ _ _ s)
    · exact moves_of_next (.refl s)
  | slotWriteComplete =>
    revert h; show execSlotWriteComplete s = _ → _
    unfold execSlotWriteComplete; split
    · exact moves_of_next (moves_of_slotPart rfl)
    · exact moves_of_next (.refl s)
  | logWriteComplete =>
    revert h; show execLogWriteComplete s = _ → _
    unfold execLogWriteComplete; split
    · exact moves_of_next (moves_of_slotPart rfl)
    · exact moves_of_next (.refl s)
  -- queues and staging
  | queueZeroingOffer => exact moves_of_next (offerZeroing_moves s) h
  | commitRoundStart =>
    revert h; show execCommitRoundStart s = _ → _
    unfold execCommitRoundStart; split
    · exact moves_of_next (moves_event (serveRound_moves _ s))
    · exact moves_of_next (.refl s)
  | commitTransactionComplete =>
    revert h; show execCommitTransactionComplete s = _ → _
    unfold execCommitTransactionComplete; split
    · exact moves_of_next (moves_event (completeCommit_moves _ s))
    · exact moves_of_next (.refl s)
  -- slots
  | slotLineSample n lines | presentDebounced n lines | latchDebounced n lines | pgoodSteady n lines | pgoodLost n lines =>
    exact moves_of_next (moves_event_if (sampleSlot_moves n lines s)) h
  | rampTimerExpiry n | linkTimerExpiry n | realignLimitExpiry n =>
    exact moves_of_next (moves_event_if (takeFaulted_moves n _ s)) h
  | drainTimerExpiry n => exact moves_of_next (moves_event_if (takeFence_moves n s)) h
  | powerDownTimerExpiry n => exact moves_of_next (moves_event_if (takePowerDown_moves n s)) h
  | backoffTimerExpiry n => exact moves_of_next (moves_event_if (takeBackoff_moves n s)) h
  | admitHead | readmitHead => exact moves_of_next (moves_event_if (.refl s)) h
  -- alarm points and the environment
  | raiseDebounceExpiry p => exact moves_of_next (moves_event_if (tellShed_moves (raisePoint_moves p _ s))) h
  | clearDebounceExpiry p => exact moves_of_next (moves_event_if (tellShed_moves (clearPoint_moves p s))) h
  | contactSample => exact moves_of_next (moves_event_if (moves_of_slotPart rfl)) h
  | scanIntervalExpiry => exact moves_of_next (moves_if fun _ => takeInterval_moves s) h
  | conversionComplete vin vref =>
    revert h; show execConversionComplete vin vref s = _ → _
    unfold execConversionComplete; split
    · exact moves_of_next (moves_event_if (moves_of_slotPart (nextChannel_slotPart _ _)))
    · exact moves_of_next (.refl s)

/-! ## Resets -/

theorem cold_listsOk (x : Straps) (m : Memory) (p : List Instr) : (State.cold x m p).ListsOk := by
  intro n
  have h : (State.cold x m p).lists[n] = NoticeList.blank := Vector.getElem_replicate _
  exact ⟨h ▸ blank_ok, fun _ => h⟩

theorem cold_slotSound (x : Straps) (m : Memory) (p : List Instr) (n : SlotId) : (State.cold x m p).SlotSound n := by
  have hlink : (State.cold x m p).links[n] = LinkPort.cold := Vector.getElem_replicate _
  have hlist : (State.cold x m p).lists[n] = NoticeList.blank := Vector.getElem_replicate _
  have hswap : (State.cold x m p).swaps[n] = Swap.cold := Vector.getElem_replicate _
  refine ⟨fun h => ?_, fun _ => ⟨?_, hlist, fun e he => absurd he List.not_mem_nil, fun q _ => ?_⟩⟩
  · rw [hswap] at h; cases h
  · rw [hlink]; exact ⟨nofun, rfl, rfl⟩
  · rw [show (State.cold x m p).queues[q] = Queue.cold from Vector.getElem_replicate _]; exact nofun

/-! ## The two invariants -/

theorem slotSound_of_idle {s : State} (ho : s.OutputsFollow) (hs : s.IdleSlotsClear) (n : SlotId) : s.SlotSound n := by
  obtain ⟨-, -, hlink⟩ := ho
  refine ⟨fun hon hoff => ?_, (idleSlotsClear_iff s).1 hs n⟩
  rw [(hlink n).1.1 hoff] at hon; cases hon

theorem exec_listsOk {c : Instr} {s t : State} (hs : s.ListsOk) (h : exec c s = .next t) : t.ListsOk := by
  by_cases hcold : ∃ x, c = .coldReset x
  · obtain ⟨x, rfl⟩ := hcold
    cases h; exact cold_listsOk x _ _
  by_cases hecho : ∃ n q k, c = .echoReplyArrival n q k
  · obtain ⟨n, q, k, rfl⟩ := hecho
    cases h
    exact (event_moves _ s).listsOk (replyArrives_listsOk n q k.toNat hs)
  by_cases hzero : c = .zeroingComplete
  · subst hzero
    revert h; show execZeroingComplete s = _ → _
    unfold execZeroingComplete; split
    · intro h; cases h
      exact (event_moves _ s).listsOk (zeroed_listsOk _ hs)
    · intro h; cases h; exact hs
  exact (exec_moves (not_exists.1 hcold) (fun n q k e => hecho ⟨n, q, k, e⟩) hzero h).listsOk hs

theorem exec_idleSlotsClear {c : Instr} {s t : State} (ho : s.OutputsFollow) (hq : s.QueuesOk) (hs : s.IdleSlotsClear)
    (h : exec c s = .next t) : t.IdleSlotsClear := by
  suffices ht : ∀ n, t.SlotSound n from (idleSlotsClear_iff t).2 fun n => (ht n).2
  have hsound := slotSound_of_idle ho hs
  by_cases hcold : ∃ x, c = .coldReset x
  · obtain ⟨x, rfl⟩ := hcold
    cases h; exact cold_slotSound x _ _
  refine Moves.slotSound ?_ hsound
  by_cases hecho : ∃ n q k, c = .echoReplyArrival n q k
  · obtain ⟨n, q, k, rfl⟩ := hecho
    exact moves_of_next (moves_event (replyArrives_moves n q k.toNat ho)) h
  by_cases hzero : c = .zeroingComplete
  · subst hzero
    revert h; show execZeroingComplete s = _ → _
    unfold execZeroingComplete; split
    · exact moves_of_next (moves_event (completeZeroing_moves _ _ hq))
    · exact moves_of_next (.refl s)
  exact exec_moves (not_exists.1 hcold) (fun n q k e => hecho ⟨n, q, k, e⟩) hzero h

/-- A step runs a command on the state with the rest of the queue, or leaves the state as it is. -/
theorem step_cases {s t : State} (h : step s = .next t) :
    t = s ∨ ∃ c rest, exec c { s with pending := rest } = .next t := by
  unfold step at h
  split at h
  · cases h; exact .inl rfl
  · exact .inr ⟨_, _, h⟩

/-- Settles O10: COLD_RESET leaves every list empty and every slot clear; of the other commands each is a chain of moves, which
keep both, where a link that opens is of a slot that is live or becomes so, and a queue that opens has both endpoints live. -/
theorem noticeListsKeepTheirForm : Obligations.NoticeListsKeepTheirForm := by
  refine ⟨⟨cold_listsOk _ _ _, fun s t hs h => ?_⟩, (idleSlotsClear_iff _).2 fun n => (cold_slotSound _ _ _ n).2,
    fun s t ho hq hs h => ?_⟩
  · rcases step_cases h with rfl | ⟨c, rest, hc⟩
    · exact hs
    · exact exec_listsOk (s := { s with pending := rest }) hs hc
  · rcases step_cases h with rfl | ⟨c, rest, hc⟩
    · exact hs
    · exact exec_idleSlotsClear (s := { s with pending := rest }) ho hq hs hc

end Sys2Proof.Machine
end

section
/-! SUPPORT. What a command may do to the staging unit, said once: `StagingMoves s t` holds where the staging unit's part of the
state goes from s to t by the unit's own operations, each under the condition it is taken in. The invariants of the staging
list, the rounds, the entry counts and the input buffers follow from `StagingMoves`, so each operation of the other blocks is
read once, as a chain of such moves. -/

namespace Sys2Proof.Machine

open Sys2Proof

/-! ## The terms of the invariants -/

/-- A READ or WRITE carries 1 to 16 words (R2). -/
def Request.Sized : Request → Prop
  | .read _ _ count => 1 ≤ count ∧ count ≤ 16
  | .write _ _ _ data => 1 ≤ data.length ∧ data.length ≤ 16
  | .readyToFence => True

theorem burstsOk_iff (s : State) : s.BurstsOk ↔ ∀ (n : SlotId), ∀ r ∈ s.links[n].buffer, r.Sized := by
  refine forall_congr' fun n => forall_congr' fun r => imp_congr_right fun _ => ?_
  cases r <;> rfl

/-- What R91 says of an entry: its group, its address and its round. -/
def Staged.key (e : Staged) : GroupId × Nat × Bool := (e.group, e.addr, e.next)

/-- An entry's place is in the range of its valid group and not the group's arm word (R91). -/
def Placeable (gs : Vector GroupCfg 16) (k : GroupId × Nat × Bool) : Prop :=
  gs[k.1].valid = true ∧ inGroup gs[k.1] k.2.1 = true ∧ k.2.1 ≠ armAddr gs[k.1]

/-- R91 of the entries' keys. -/
def KeysOk (gs : Vector GroupCfg 16) (ks : List (GroupId × Nat × Bool)) : Prop :=
  ks.length ≤ 256 ∧ (∀ k ∈ ks, Placeable gs k) ∧ ks.Nodup

theorem stagingOk_iff (s : State) : s.StagingOk ↔ KeysOk s.cfg.groups (s.staged.map Staged.key) := by
  unfold State.StagingOk KeysOk Placeable
  rw [List.length_map, List.forall_mem_map]; rfl

/-- Entries taken away leave R91 of the others. -/
theorem KeysOk.sublist {gs : Vector GroupCfg 16} {ks ls : List (GroupId × Nat × Bool)} (h : KeysOk gs ks)
    (hs : ls.Sublist ks) : KeysOk gs ls := by
  obtain ⟨hlen, hplace, hnodup⟩ := h
  exact ⟨hs.length_le.trans hlen, fun k hk => hplace k (hs.subset hk), hs.nodup hnodup⟩

/-- An entry of group g's current round (`next = false`) or of its next round. -/
def inRound (g : GroupId) (next : Bool) (e : Staged) : Bool := decide (e.group = g) && (e.next == next)

theorem inRound_iff {g : GroupId} {next : Bool} {e : Staged} : inRound g next e = true ↔ e.group = g ∧ e.next = next := by
  simp [inRound]

/-- How many entries of group g's current or next round the staging list holds. -/
def State.entriesOf (s : State) (g : GroupId) (next : Bool) : Nat := s.staged.countP (inRound g next)

/-- A group's entry count and round size against its entries of the current and the next round: COMMITTING, it gathers the next
round, and the current one is in flight; otherwise it gathers the current one, and there is no next (R74, R84, R87). -/
def Group.Counted (x : Group) (current next : Nat) : Prop :=
  if x.state = .committing then x.entryCount = next ∧ current ≤ x.roundSize else x.entryCount = current ∧ next = 0

theorem countsAgree_iff (s : State) :
    s.CountsAgree ↔ ∀ g : GroupId, s.groups[g].Counted (s.entriesOf g false) (s.entriesOf g true) := by
  have hcount : ∀ g b, (s.staged.filter fun e => decide (e.group = g ∧ e.next = b)).length = s.entriesOf g b := by
    intro g b
    rw [← List.countP_eq_length_filter]
    refine List.countP_congr fun e _ => ?_
    rw [decide_eq_true_eq, inRound_iff]
  have hnone : ∀ g, (¬ ∃ e ∈ s.staged, e.group = g ∧ e.next = true) ↔ s.entriesOf g true = 0 := by
    intro g
    simp [State.entriesOf, List.countP_eq_zero, inRound]
  refine forall_congr' fun g => ?_
  by_cases h : s.groups[g].state = .committing
  · simp only [h, Group.Counted, iff_true, if_true, hcount, implies_true, true_and, forall_const]
  · have hgather : (s.staged.filter fun e => decide (e.group = g ∧ (e.next = true ↔ s.groups[g].state = .committing))).length =
        s.entriesOf g false := by
      rw [← hcount]; simp only [h, iff_false, Bool.not_eq_true]
    rw [hgather, Group.Counted, if_neg h, ← hnone]
    simp only [h, imp_false, false_implies, and_true]

/-! ## The moves -/

/-- The memory port from p to q as the commit engine sees it: a transaction of its own that waits was waiting, and one in flight
was in flight or has been granted (R33, R34). -/
def PortMoves (p q : MemPort) : Prop :=
  (∀ ws, q.commit = some ws → p.commit = some ws) ∧
    ∀ ws, q.flight = some (.commit ws) → p.flight = some (.commit ws) ∨ (p.commit = some ws ∧ q.commit = none)

/-- The fields that the invariants of the staging unit and of the input buffers speak of. -/
def State.stagingPart (s : State) : List Staged × Vector Group 16 × Vector GroupCfg 16 × List GroupId × Bool ×
    Option (List WriteWord) × Option Flight × Vector LinkPort 12 :=
  (s.staged, s.groups, s.cfg.groups, s.rounds, s.serving, s.port.commit, s.port.flight, s.links)

/-- A due torn group after its tick, before its notice (R83). -/
def State.tornRound (g : GroupId) (s : State) : State :=
  (dropGathering g s).modGroup g fun x => { x with state := .opened, torn := false, entryCount := 0 }

/-- A due untorn group after its tick (R84). -/
def State.startedRound (g : GroupId) (s : State) : State :=
  { s with rounds := s.rounds ++ [g] }.modGroup g fun x =>
    { x with state := .committing, roundSize := x.entryCount, entryCount := 0 }

/-- The chains of changes that commands other than COLD_RESET and the commit engine's own make in the staging unit's part of the
state: it stays as it is; frames of 1 to 16 words come into the input buffers or frames leave them; the memory port goes on; a slot's
entries are purged; a word is handed to the unit; an ARMED group is due at its tick, or disarmed; the unit is reset with no group
COMMITTING; a group's record is written. -/
inductive StagingMoves : State → State → Prop where
  | same {s t : State} : t.stagingPart = s.stagingPart → StagingMoves s t
  | links {s : State} (v : Vector LinkPort 12) :
      (∀ n : SlotId, ∀ r ∈ v[n].buffer, r ∈ s.links[n].buffer ∨ r.Sized) → StagingMoves s { s with links := v }
  | port {s : State} (p : MemPort) : PortMoves s.port p → StagingMoves s { s with port := p }
  | purge {s : State} (n : SlotId) : StagingMoves s (purgeSlot n s)
  | word {s : State} (n : SlotId) (k : StagingWord) : StagingMoves s (takeStagingWord n s k)
  | torn {s : State} (g : GroupId) : s.groups[g].state = .armed → StagingMoves s (s.tornRound g)
  | starts {s : State} (g : GroupId) : s.groups[g].state = .armed → StagingMoves s (s.startedRound g)
  | disarms {s : State} (g : GroupId) :
      s.groups[g].state = .armed → StagingMoves s (s.modGroup g fun x => { x with state := .opened })
  | warm {s : State} : anyCommitting s = false → StagingMoves s (warmStaging s)
  | record {s : State} (g : GroupId) (k : Nat) (w : Word) : StagingMoves s (takeGroupWord g k w s)
  | trans {s t u : State} : StagingMoves s t → StagingMoves t u → StagingMoves s u

theorem StagingMoves.refl (s : State) : StagingMoves s s := .same rfl

/-! ## What the unit's operations do to the list and the groups -/

section Operations

variable (s : State)

theorem inFlight_iff (e : Staged) : inFlight s e = true ↔ s.groups[e.group].state = .committing ∧ e.next = false := by
  simp [inFlight]

/-- A staged word changes the data of one entry, adds an entry that stands for no other, marks its group torn, or does nothing
(R74 to R76). -/
theorem takeStaged_cases (n : SlotId) (g : GroupId) (a : Nat) (d : Word) (be : Mask) :
    takeStaged n g a d be s = s ∨
    (∃ f : Staged → Staged, (∀ e, (f e).key = e.key) ∧ takeStaged n g a d be s = { s with staged := s.staged.map f }) ∨
    (∃ e : Staged, e.key = (g, a, decide (s.groups[g].state = .committing)) ∧ e.key ∉ s.staged.map Staged.key ∧
      Placeable s.cfg.groups e.key ∧ s.staged.length < 256 ∧
      takeStaged n g a d be s =
        { s with staged := s.staged ++ [e] }.modGroup g fun x => { x with entryCount := x.entryCount + 1 }) ∨
    takeStaged n g a d be s = s.modGroup g fun x => { x with torn := true } := by
  unfold takeStaged; dsimp only
  split_ifs with hno hmerge hroom
  · exact .inl rfl
  · refine .inr (.inl ⟨_, fun e => ?_, rfl⟩)
    split <;> rfl
  · refine .inr (.inr (.inl ⟨_, rfl, ?_, ?_, hroom, rfl⟩))
    · intro hmem
      obtain ⟨e, he, hkey⟩ := List.mem_map.1 hmem
      obtain ⟨hg, ha, hn⟩ : e.group = g ∧ e.addr = a ∧ e.next = _ := by
        simpa only [Staged.key, newStaged, Prod.mk.injEq] using hkey
      exact hmerge (List.any_eq_true.2 ⟨e, he, by simp [sameEntry, hg, ha, hn]⟩)
    · simp only [not_or, Bool.not_eq_false, stageable, Bool.and_eq_true, decide_eq_true_eq] at hno
      obtain ⟨-, -, ⟨hv, hr⟩, harm⟩ := hno
      exact ⟨hv, hr, harm⟩
  · exact .inr (.inr (.inr rfl))

/-- An arm-word operation discards, or it changes its group's record alone, keeping its COMMITTING state and its counts
(R79 to R82). -/
theorem takeArmWord_cases (g : GroupId) (d : Word) (be : Mask) :
    takeArmWord g d be s = s ∨ takeArmWord g d be s = takeDiscard g s ∨
    ∃ f : Group → Group, (∀ x, ((f x).state = .committing ↔ x.state = .committing) ∧ (f x).entryCount = x.entryCount ∧
      (f x).roundSize = x.roundSize) ∧ takeArmWord g d be s = s.modGroup g f := by
  unfold takeArmWord
  split
  · split
    · refine .inr (.inr ⟨_, fun x => ?_, rfl⟩)
      cases hx : x.state <;> simp
    · refine .inr (.inr ⟨_, fun x => ?_, rfl⟩)
      cases hx : x.state <;> simp [hx]
    · exact .inr (.inl rfl)
    · exact .inl rfl
  · exact .inl rfl

/-- The record a group has after a DISCARD (R81, R82). -/
def discarded (x : Group) : Group :=
  match x.state with
  | .committing => { x with entryCount := 0, torn := false, pendingArm := none }
  | _ => { x with entryCount := 0, torn := false, state := .opened }

theorem takeDiscard_eq (g : GroupId) : takeDiscard g s = (dropGathering g s).modGroup g discarded := rfl

theorem discarded_state (x : Group) : (discarded x).state = .committing ↔ x.state = .committing := by
  unfold discarded; split <;> simp_all

/-- The record a group has after the purge of slot n (R90). -/
theorem purgeSlot_group (n : SlotId) (g : GroupId) :
    (purgeSlot n s).groups[g] =
      if purgeCount s n g = 0 then s.groups[g]
      else { s.groups[g] with entryCount := s.groups[g].entryCount - purgeCount s n g, torn := true } := by
  unfold purgeSlot; rw [ofFn_get]

theorem purgeSlot_keys (n : SlotId) :
    (purgeSlot n s).staged.map Staged.key = (s.staged.filter fun e => !purges s n e).map Staged.key := by
  unfold purgeSlot; rw [List.map_map]; rfl

/-- A write of a group's record is held, or it makes the group valid again, or the group has no entry and no round in flight
(R73). -/
theorem takeGroupWord_cases (g : GroupId) (k : Nat) (w : Word) :
    takeGroupWord g k w s = s ∨ ∃ c : GroupCfg, takeGroupWord g k w s = { s with cfg := { s.cfg with groups := s.cfg.groups.set g c } } ∧
      ((c.valid = true ∧ c.base = s.cfg.groups[g].base ∧ c.pages = s.cfg.groups[g].pages) ∨
        (hasEntries s g = false ∧ s.groups[g].state ≠ .committing)) := by
  unfold takeGroupWord; dsimp only
  split
  · exact .inl rfl
  · rename_i hfree
    refine .inr ⟨_, rfl, ?_⟩
    simp only [groupHeld, Bool.or_eq_true, not_or] at hfree
    obtain ⟨hheld, -⟩ := hfree
    split at hheld
    · rename_i hk
      subst hk
      cases hv : (judgeGroup s.cfg.groups[g] 0 w).valid
      · simp only [hv, Bool.not_false, Bool.true_and, Bool.or_eq_true, decide_eq_true_eq, not_or, not_not,
          Bool.not_eq_true] at hheld
        exact .inr ⟨hheld.1, by rw [hheld.2]; exact nofun⟩
      · exact .inl ⟨rfl, rfl, rfl⟩
    · simp only [Bool.or_eq_true, decide_eq_true_eq, not_or, Bool.not_eq_true] at hheld
      exact .inr hheld

end Operations

end Sys2Proof.Machine
end

section
/-! SUPPORT. The four invariants of the staging unit and the input buffers under every move. -/

namespace Sys2Proof.Machine

open Sys2Proof

theorem stagingPart_iff {s t : State} : t.stagingPart = s.stagingPart ↔ t.staged = s.staged ∧ t.groups = s.groups ∧
    t.cfg.groups = s.cfg.groups ∧ t.rounds = s.rounds ∧ t.serving = s.serving ∧ t.port.commit = s.port.commit ∧
    t.port.flight = s.port.flight ∧ t.links = s.links := by
  simp only [State.stagingPart, Prod.mk.injEq]

/-! ## The bursts in the input buffers (R2, R8) -/

theorem takeStagingWord_links (n : SlotId) (s : State) (k : StagingWord) : (takeStagingWord n s k).links = s.links := by
  rw [takeStagingWord_eq]

theorem takeGroupWord_links (g : GroupId) (k : Nat) (w : Word) (s : State) : (takeGroupWord g k w s).links = s.links := by
  rcases takeGroupWord_cases s g k w with h | ⟨c, h, -⟩ <;> rw [h]

theorem burstsOk_of_links {s t : State} (h : t.links = s.links) (hs : s.BurstsOk) : t.BurstsOk := by
  unfold State.BurstsOk; rw [h]; exact hs

theorem StagingMoves.burstsOk {s t : State} (h : StagingMoves s t) : s.BurstsOk → t.BurstsOk := by
  induction h with
  | same h => obtain ⟨-, -, -, -, -, -, -, hl⟩ := stagingPart_iff.1 h; exact burstsOk_of_links hl
  | links v h =>
    intro hs
    rw [burstsOk_iff] at hs ⊢
    exact fun n r hr => (h n r hr).elim (hs n r) id
  | word n k => exact burstsOk_of_links (takeStagingWord_links n _ k)
  | record g k w => exact burstsOk_of_links (takeGroupWord_links g k w _)
  | port | purge | torn | starts | disarms | warm => exact burstsOk_of_links rfl
  | trans _ _ ih1 ih2 => exact ih2 ∘ ih1

/-! ## The staging list (R91) -/

/-- R91 stays where the entries' keys are some of those there were and the ranges stand. -/
theorem stagingOk_of_sublist {s t : State} (hk : (t.staged.map Staged.key).Sublist (s.staged.map Staged.key))
    (hg : t.cfg.groups = s.cfg.groups) (hs : s.StagingOk) : t.StagingOk := by
  rw [stagingOk_iff] at hs ⊢
  rw [hg]; exact hs.sublist hk

theorem stagingOk_of_keys {s t : State} (hk : t.staged.map Staged.key = s.staged.map Staged.key)
    (hg : t.cfg.groups = s.cfg.groups) (hs : s.StagingOk) : t.StagingOk :=
  stagingOk_of_sublist (hk ▸ List.Sublist.refl _) hg hs

/-- Entries removed. -/
theorem stagingOk_filter {s : State} (p : Staged → Bool) (hs : s.StagingOk) :
    State.StagingOk { s with staged := s.staged.filter p } :=
  stagingOk_of_sublist (List.filter_sublist.map _) rfl hs

theorem takeStaged_stagingOk (n : SlotId) (g : GroupId) (a : Nat) (d : Word) (be : Mask) {s : State} (hs : s.StagingOk) :
    (takeStaged n g a d be s).StagingOk := by
  rcases takeStaged_cases s n g a d be with h | ⟨f, hf, h⟩ | ⟨e, -, hnew, hplace, hroom, h⟩ | h
  · rw [h]; exact hs
  · rw [h]
    exact stagingOk_of_keys (s := s) (by simp only [List.map_map, Function.comp_def, hf]) rfl hs
  · rw [h]
    rw [stagingOk_iff] at hs ⊢
    obtain ⟨-, hrange, hnodup⟩ := hs
    rw [State.modGroup_staged, State.modGroup_cfg, List.map_append]
    refine ⟨by simpa using hroom, fun k hk => ?_, ?_⟩
    · rcases List.mem_append.1 hk with hk | hk
      · exact hrange k hk
      · rw [List.mem_singleton.1 hk]; exact hplace
    · exact hnodup.append (List.nodup_singleton _) (List.disjoint_singleton.2 hnew)
  · rw [h]; exact hs

theorem takeStagingWord_stagingOk (n : SlotId) (k : StagingWord) {s : State} (hs : s.StagingOk) :
    (takeStagingWord n s k).StagingOk := by
  cases k with
  | staged g a d be => exact takeStaged_stagingOk n g a d be hs
  | arm g d be =>
    show (takeArmWord g d be s).StagingOk
    rcases takeArmWord_cases s g d be with h | h | ⟨f, -, h⟩ <;> rw [h]
    · exact hs
    · exact stagingOk_filter _ hs
    · exact hs

/-- A group whose record changes its range, or is made invalid, has no entry (R73). -/
theorem takeGroupWord_stagingOk (g : GroupId) (k : Nat) (w : Word) {s : State} (hs : s.StagingOk) :
    (takeGroupWord g k w s).StagingOk := by
  rcases takeGroupWord_cases s g k w with h | ⟨c, h, hc⟩
  · rw [h]; exact hs
  rw [h]
  rw [stagingOk_iff] at hs ⊢
  obtain ⟨hlen, hplace, hnodup⟩ := hs
  refine ⟨hlen, fun ⟨j, a, b⟩ hk => ?_, hnodup⟩
  obtain ⟨hvalid, hrange, harm⟩ := hplace _ hk
  change Placeable (s.cfg.groups.set g c) (j, a, b)
  by_cases hg : g = j
  · subst hg
    rw [Placeable, show (s.cfg.groups.set g c)[g] = c from Vector.getElem_set_self _]
    rcases hc with ⟨hv, hb, hp⟩ | ⟨hnone, -⟩
    · refine ⟨hv, ?_, ?_⟩
      · rw [inGroup, groupBytes, hb, hp]; exact hrange
      · rw [armAddr, groupBytes, hb, hp]; exact harm
    · obtain ⟨e, he, hkey⟩ := List.mem_map.1 hk
      simp only [hasEntries, List.any_eq_false, decide_eq_true_eq] at hnone
      exact absurd (congrArg Prod.fst hkey) (hnone e he)
  · rw [Placeable, show (s.cfg.groups.set g c)[j] = s.cfg.groups[j] from Vector.getElem_set_ne _ _ fun e => hg (Fin.ext e)]
    exact ⟨hvalid, hrange, harm⟩

theorem StagingMoves.stagingOk {s t : State} (h : StagingMoves s t) : s.StagingOk → t.StagingOk := by
  induction h with
  | same h =>
    obtain ⟨hst, -, hg, -⟩ := stagingPart_iff.1 h
    exact stagingOk_of_keys (by rw [hst]) hg
  | @purge s n =>
    refine stagingOk_of_sublist ?_ rfl
    rw [purgeSlot_keys]; exact List.filter_sublist.map _
  | word n k => exact takeStagingWord_stagingOk n k
  | torn => exact stagingOk_filter _
  | warm => exact stagingOk_of_sublist (List.nil_sublist _) rfl
  | record g k w => exact takeGroupWord_stagingOk g k w
  | links | port | starts | disarms => exact fun hs => hs
  | trans _ _ ih1 ih2 => exact ih2 ∘ ih1

/-! ## The rounds (R33, R84 to R86) -/

/-- A word lies whole in a group's range, at a word address. -/
def WriteWord.WholeIn (c : GroupCfg) (w : WriteWord) : Prop :=
  w.addr % 4 = 0 ∧ c.base ≤ w.addr ∧ w.addr + 4 ≤ c.base + c.pages * 4096

theorem portMoves_of_eq {p q : MemPort} (hc : q.commit = p.commit) (hf : q.flight = p.flight) : PortMoves p q :=
  ⟨fun _ h => hc ▸ h, fun _ h => .inl (hf ▸ h)⟩

/-- What the engine has at the port after a move it had before. -/
theorem PortMoves.engine {p q : MemPort} (h : PortMoves p q) {ws : List WriteWord}
    (hq : q.commit = some ws ∨ q.flight = some (.commit ws)) : p.commit = some ws ∨ p.flight = some (.commit ws) := by
  rcases hq with hq | hq
  · exact .inl (h.1 ws hq)
  · rcases h.2 ws hq with hp | hp
    · exact .inr hp
    · exact .inl hp.1

/-- The rounds stay sound where the same groups are COMMITTING, the port goes on, and the groups with rounds keep their
ranges. -/
theorem roundsOk_of {s t : State} (hstate : ∀ g : GroupId, t.groups[g].state = .committing ↔ s.groups[g].state = .committing)
    (hrounds : t.rounds = s.rounds) (hserving : t.serving = s.serving) (hport : PortMoves s.port t.port)
    (hcfg : ∀ g ∈ s.rounds, s.cfg.groups[g].valid = true → t.cfg.groups[g].valid = true ∧
      t.cfg.groups[g].base = s.cfg.groups[g].base ∧ t.cfg.groups[g].pages = s.cfg.groups[g].pages)
    (hs : s.RoundsOk) : t.RoundsOk := by
  obtain ⟨hnodup, hcommitting, hengine, hone⟩ := hs
  unfold State.RoundsOk
  rw [hrounds, hserving]
  refine ⟨hnodup, fun g => (hcommitting g).trans (hstate g).symm, fun ws hws => ?_, fun ws vs hc hf => ?_⟩
  · obtain ⟨hserve, g, later, hhead, hvalid, hwords⟩ := hengine ws (hport.engine hws)
    obtain ⟨hv, hb, hp⟩ := hcfg g (hhead ▸ List.mem_cons_self) hvalid
    refine ⟨hserve, g, later, hhead, hv, ?_⟩
    rw [hb, hp]; exact hwords
  · rcases hport.2 vs hf with hp | hp
    · exact hone ws vs (hport.1 ws hc) hp
    · rw [hp.2] at hc; cases hc

/-- A change of the staging list and the groups alone, under which the same groups are COMMITTING. -/
theorem roundsOk_of_groups {s t : State} (ht : t = { s with staged := t.staged, groups := t.groups })
    (hstate : ∀ g : GroupId, t.groups[g].state = .committing ↔ s.groups[g].state = .committing) (hs : s.RoundsOk) :
    t.RoundsOk := by
  rw [ht]
  exact roundsOk_of hstate rfl rfl (portMoves_of_eq rfl rfl) (fun _ _ hv => ⟨hv, rfl, rfl⟩) hs

/-- A group's record changed without its entering or leaving COMMITTING. -/
theorem modGroup_committing (s : State) (g : GroupId) {f : Group → Group}
    (h : (f s.groups[g]).state = .committing ↔ s.groups[g].state = .committing) (j : GroupId) :
    (s.modGroup g f).groups[j].state = .committing ↔ s.groups[j].state = .committing := by
  rw [State.modGroup_get]; split
  · rename_i hj; subst hj; exact h
  · rfl

theorem takeStagingWord_committing (n : SlotId) (s : State) (k : StagingWord) (j : GroupId) :
    (takeStagingWord n s k).groups[j].state = .committing ↔ s.groups[j].state = .committing := by
  cases k with
  | staged g a d be =>
    show (takeStaged n g a d be s).groups[j].state = _ ↔ _
    rcases takeStaged_cases s n g a d be with h | ⟨f, -, h⟩ | ⟨e, -, -, -, -, h⟩ | h <;> rw [h]
    · exact modGroup_committing { s with staged := s.staged ++ [e] } g Iff.rfl j
    · exact modGroup_committing s g Iff.rfl j
  | arm g d be =>
    show (takeArmWord g d be s).groups[j].state = _ ↔ _
    rcases takeArmWord_cases s g d be with h | h | ⟨f, hf, h⟩ <;> rw [h]
    · rw [takeDiscard_eq]; exact modGroup_committing (dropGathering g s) g (discarded_state _) j
    · exact modGroup_committing s g (hf _).1 j

theorem takeStagingWord_roundsOk (n : SlotId) (k : StagingWord) {s : State} (hs : s.RoundsOk) :
    (takeStagingWord n s k).RoundsOk :=
  roundsOk_of_groups (takeStagingWord_eq n s k) (takeStagingWord_committing n s k) hs

/-- A group with a round keeps its range (R73). -/
theorem takeGroupWord_roundsOk (g : GroupId) (k : Nat) (w : Word) {s : State} (hs : s.RoundsOk) :
    (takeGroupWord g k w s).RoundsOk := by
  rcases takeGroupWord_cases s g k w with h | ⟨c, h, hc⟩ <;> rw [h]
  · exact hs
  have hmem : ∀ j ∈ s.rounds, s.groups[j].state = .committing := fun j => (hs.2.1 j).1
  refine roundsOk_of (s := s) (fun _ => Iff.rfl) rfl rfl (portMoves_of_eq rfl rfl) (fun j hj hv => ?_) hs
  change (s.cfg.groups.set g c)[j].valid = true ∧ (s.cfg.groups.set g c)[j].base = _ ∧ (s.cfg.groups.set g c)[j].pages = _
  by_cases hg : g = j
  · subst hg
    rw [show (s.cfg.groups.set g c)[g] = c from Vector.getElem_set_self _]
    rcases hc with hc | ⟨-, hnot⟩
    · exact hc
    · exact absurd (hmem g hj) hnot
  · rw [show (s.cfg.groups.set g c)[j] = s.cfg.groups[j] from Vector.getElem_set_ne _ _ fun e => hg (Fin.ext e)]
    exact ⟨hv, rfl, rfl⟩

/-- A group that starts its round waits behind the others (R84, R86). -/
theorem startedRound_roundsOk {g : GroupId} {s : State} (hg : s.groups[g].state = .armed) (hs : s.RoundsOk) :
    (s.startedRound g).RoundsOk := by
  obtain ⟨hnodup, hcommitting, hengine, hone⟩ := hs
  have hnew : g ∉ s.rounds := fun hm => by rw [(hcommitting g).1 hm] at hg; cases hg
  refine ⟨hnodup.append (List.nodup_singleton g) (List.disjoint_singleton.2 hnew), fun j => ?_, fun ws hws => ?_, hone⟩
  · show j ∈ s.rounds ++ [g] ↔ _
    rw [List.mem_append, List.mem_singleton, hcommitting j, State.startedRound, State.modGroup_get]
    split
    · rename_i hj; simp [hj]
    · rename_i hj; simp [Ne.symm hj]
  · obtain ⟨hserve, h, later, hhead, hrest⟩ := hengine ws hws
    exact ⟨hserve, h, later ++ [g], by rw [← List.cons_append, ← hhead]; rfl, hrest⟩

theorem anyCommitting_false {s : State} (h : anyCommitting s = false) (g : GroupId) : s.groups[g].state ≠ .committing := by
  simpa using List.any_eq_false.1 h g (List.mem_finRange g)

theorem warmStaging_group (s : State) (g : GroupId) :
    (warmStaging s).groups[g] = { s.groups[g] with state := .opened, pendingArm := none, torn := false, entryCount := 0 } := by
  unfold warmStaging; rw [ofFn_get]

/-- An ARMED group that goes to OPEN neither enters nor leaves COMMITTING. -/
theorem opened_of_armed {x : GroupState} (h : x = .armed) : GroupState.opened = .committing ↔ x = .committing := by
  rw [h]; decide

theorem StagingMoves.roundsOk {s t : State} (h : StagingMoves s t) : s.RoundsOk → t.RoundsOk := by
  induction h with
  | same h =>
    obtain ⟨-, hgroups, hcfg, hrounds, hserving, hc, hf, -⟩ := stagingPart_iff.1 h
    refine roundsOk_of (fun g => by rw [hgroups]) hrounds hserving (portMoves_of_eq hc hf) fun _ _ hv => ?_
    rw [hcfg]; exact ⟨hv, rfl, rfl⟩
  | port p h => exact roundsOk_of (fun _ => Iff.rfl) rfl rfl h fun _ _ hv => ⟨hv, rfl, rfl⟩
  | @purge s n =>
    refine roundsOk_of_groups rfl fun g => ?_
    rw [purgeSlot_group]; split <;> rfl
  | word n k => exact takeStagingWord_roundsOk n k
  | @torn s g hg => exact roundsOk_of_groups rfl (modGroup_committing (dropGathering g s) g (opened_of_armed hg))
  | @disarms s g hg => exact roundsOk_of_groups rfl (modGroup_committing s g (opened_of_armed hg))
  | starts g hg => exact startedRound_roundsOk hg
  | @warm s hw =>
    refine roundsOk_of_groups rfl fun g => ?_
    rw [warmStaging_group]
    exact ⟨nofun, fun h => absurd h (anyCommitting_false hw g)⟩
  | record g k w => exact takeGroupWord_roundsOk g k w
  | links => exact fun hs => hs
  | trans _ _ ih1 ih2 => exact ih2 ∘ ih1

/-! ## The entry counts (R74, R84, R87, R90) -/

/-- Groups that keep their state and counts, and lists with as many entries of each round. -/
theorem countsAgree_of {s t : State}
    (hx : ∀ g : GroupId, (t.groups[g].state = .committing ↔ s.groups[g].state = .committing) ∧
      t.groups[g].entryCount = s.groups[g].entryCount ∧ t.groups[g].roundSize = s.groups[g].roundSize)
    (hn : ∀ g b, t.entriesOf g b = s.entriesOf g b) (hs : s.CountsAgree) : t.CountsAgree := by
  rw [countsAgree_iff] at hs ⊢
  intro g
  obtain ⟨h1, h2, h3⟩ := hx g
  have := hs g
  unfold Group.Counted at this ⊢
  rw [hn, hn, h2, h3]
  simp only [h1]; exact this

theorem entriesOf_congr {s t : State} (h : t.staged = s.staged) (g : GroupId) (b : Bool) :
    t.entriesOf g b = s.entriesOf g b := by unfold State.entriesOf; rw [h]

/-- The entries are counted by their keys. -/
theorem countP_of_keys {l m : List Staged} (h : l.map Staged.key = m.map Staged.key) (g : GroupId) (b : Bool) :
    l.countP (inRound g b) = m.countP (inRound g b) := by
  have hkey : ∀ k : List Staged, k.countP (inRound g b) =
      (k.map Staged.key).countP fun x => decide (x.1 = g) && (x.2.2 == b) := fun k => by
    rw [List.countP_map]; rfl
  rw [hkey, hkey, h]

/-- A group's record and its entries change, those of the other groups stay. -/
theorem countsAgree_modGroup {s t : State} (g : GroupId) (f : Group → Group) (ht : t.groups = s.groups)
    (hother : ∀ j b, g ≠ j → t.entriesOf j b = s.entriesOf j b)
    (hg : s.groups[g].Counted (s.entriesOf g false) (s.entriesOf g true) →
      (f s.groups[g]).Counted (t.entriesOf g false) (t.entriesOf g true))
    (hs : s.CountsAgree) : (t.modGroup g f).CountsAgree := by
  rw [countsAgree_iff] at hs ⊢
  intro j
  have hn : ∀ b, (t.modGroup g f).entriesOf j b = t.entriesOf j b := fun _ => rfl
  rw [hn, hn, State.modGroup_get, ht]
  split
  · rename_i hj; subst hj; exact hg (hs g)
  · rename_i hj; rw [hother j _ hj, hother j _ hj]; exact hs j

/-! ### The purge (R90) -/

/-- How many entries of group g's current or next round the purge of slot n removes. -/
def State.purgedOf (s : State) (n : SlotId) (g : GroupId) (next : Bool) : Nat :=
  (s.staged.filter (purges s n)).countP (inRound g next)

theorem countP_group (g : GroupId) (l : List Staged) :
    l.countP (fun e => decide (e.group = g)) = l.countP (inRound g false) + l.countP (inRound g true) := by
  induction l with
  | nil => rfl
  | cons e l ih =>
    have he : (if decide (e.group = g) = true then 1 else 0) =
        (if inRound g false e = true then 1 else 0) + if inRound g true e = true then 1 else 0 := by
      simp only [inRound_iff, decide_eq_true_eq]
      cases e.next <;> simp
    rw [List.countP_cons, List.countP_cons, List.countP_cons]
    omega

theorem purgeCount_eq (s : State) (n : SlotId) (g : GroupId) :
    purgeCount s n g = s.purgedOf n g false + s.purgedOf n g true := by
  rw [State.purgedOf, State.purgedOf, ← countP_group, List.countP_eq_length_filter, List.filter_filter]; rfl

theorem entriesOf_purgeSlot (s : State) (n : SlotId) (g : GroupId) (b : Bool) :
    s.entriesOf g b = s.purgedOf n g b + (purgeSlot n s).entriesOf g b := by
  have h : (purgeSlot n s).entriesOf g b = (s.staged.filter fun e => !purges s n e).countP (inRound g b) :=
    countP_of_keys (purgeSlot_keys s n) g b
  rw [h, State.purgedOf, State.entriesOf]
  have := List.countP_eq_countP_filter_add s.staged (inRound g b) (purges s n)
  simpa using this

/-- The purge leaves a round in flight its entries. -/
theorem purgedOf_inFlight {s : State} {g : GroupId} (h : s.groups[g].state = .committing) (n : SlotId) :
    s.purgedOf n g false = 0 := by
  refine List.countP_eq_zero.2 fun e he hin => ?_
  obtain ⟨rfl, hnext⟩ := inRound_iff.1 hin
  have hp := (List.mem_filter.1 he).2
  rw [purges, (inFlight_iff s e).2 ⟨h, hnext⟩] at hp
  simp at hp

theorem purgeSlot_countsAgree (n : SlotId) {s : State} (hs : s.CountsAgree) : (purgeSlot n s).CountsAgree := by
  rw [countsAgree_iff] at hs ⊢
  intro g
  have hg := hs g
  have hcount := purgeCount_eq s n g
  have hcur := entriesOf_purgeSlot s n g false
  have hnext := entriesOf_purgeSlot s n g true
  rw [purgeSlot_group]
  by_cases hc : s.groups[g].state = .committing
  · have hfl := purgedOf_inFlight hc n
    split <;> simp only [Group.Counted, hc, if_true] at hg ⊢ <;> omega
  · split <;> simp only [Group.Counted, hc, if_false] at hg ⊢ <;> omega

/-! ### Words for the unit -/

theorem entriesOf_append (s : State) (e : Staged) (g : GroupId) (b : Bool) :
    State.entriesOf { s with staged := s.staged ++ [e] } g b =
      s.entriesOf g b + if e.group = g ∧ e.next = b then 1 else 0 := by
  simp only [State.entriesOf, List.countP_append, List.countP_singleton, inRound_iff]

theorem takeStaged_countsAgree (n : SlotId) (g : GroupId) (a : Nat) (d : Word) (be : Mask) {s : State}
    (hs : s.CountsAgree) : (takeStaged n g a d be s).CountsAgree := by
  rcases takeStaged_cases s n g a d be with h | ⟨f, hf, h⟩ | ⟨e, hkey, -, -, -, h⟩ | h <;> rw [h]
  · exact hs
  · exact countsAgree_of (s := s) (fun _ => ⟨Iff.rfl, rfl, rfl⟩)
      (countP_of_keys (by simp only [List.map_map, Function.comp_def, hf])) hs
  · obtain ⟨rfl, -, hnext⟩ : e.group = g ∧ e.addr = a ∧ e.next = _ := by simpa only [Staged.key, Prod.mk.injEq] using hkey
    refine countsAgree_modGroup e.group _ (s := s) rfl (fun j b hj => ?_) (fun hg => ?_) hs
    · rw [entriesOf_append, if_neg fun h => hj h.1, Nat.add_zero]
    · rw [entriesOf_append, entriesOf_append, hnext]
      by_cases hc : s.groups[e.group].state = .committing
      · simp only [Group.Counted, hc, if_true] at hg ⊢
        simpa using hg
      · simp only [Group.Counted, hc, if_false] at hg ⊢
        simpa using hg
  · exact countsAgree_modGroup g _ (s := s) rfl (fun _ _ _ => rfl) (fun hg => hg) hs

/-- Dropping a group's gathering round leaves it the entries of its round in flight alone. -/
theorem entriesOf_dropGathering (g : GroupId) (s : State) (j : GroupId) (b : Bool) :
    (dropGathering g s).entriesOf j b =
      if g = j ∧ (s.groups[g].state = .committing → b = true) then 0 else s.entriesOf j b := by
  have h : (dropGathering g s).entriesOf j b =
      s.staged.countP fun e => inRound j b e && !(decide (e.group = g) && !inFlight s e) := List.countP_filter
  rw [h]
  split
  · rename_i hg
    obtain ⟨rfl, hb⟩ := hg
    refine List.countP_eq_zero.2 fun e _ he => ?_
    simp only [Bool.and_eq_true, inRound_iff, Bool.not_eq_true', Bool.and_eq_false_iff, decide_eq_false_iff_not,
      Bool.not_eq_false', inFlight_iff] at he
    obtain ⟨⟨rfl, rfl⟩, h | ⟨hc, hn⟩⟩ := he
    · exact h rfl
    · rw [hb hc] at hn; cases hn
  · rename_i hg
    refine List.countP_congr fun e _ => ?_
    simp only [Bool.and_eq_true, inRound_iff, Bool.not_eq_true', Bool.and_eq_false_iff, decide_eq_false_iff_not,
      Bool.not_eq_false', inFlight_iff]
    refine ⟨fun h => h.1, fun h => ⟨h, ?_⟩⟩
    obtain ⟨rfl, rfl⟩ := h
    by_cases he : e.group = g
    · subst he
      simpa using hg
    · exact .inl he

theorem takeDiscard_countsAgree (g : GroupId) {s : State} (hs : s.CountsAgree) : (takeDiscard g s).CountsAgree := by
  rw [takeDiscard_eq]
  refine countsAgree_modGroup g discarded (s := s) rfl (fun j b hj => ?_) (fun hg => ?_) hs
  · rw [entriesOf_dropGathering, if_neg fun h => hj h.1]
  · rw [entriesOf_dropGathering, entriesOf_dropGathering]
    by_cases hc : s.groups[g].state = .committing
    · simp only [Group.Counted, hc, if_true, discarded] at hg ⊢
      simpa using hg.2
    · have hd := mt (discarded_state s.groups[g]).1 hc
      simp only [Group.Counted, hd, if_false, hc, false_implies, and_true, if_true]
      unfold discarded; split <;> rfl

theorem takeStagingWord_countsAgree (n : SlotId) (k : StagingWord) {s : State} (hs : s.CountsAgree) :
    (takeStagingWord n s k).CountsAgree := by
  cases k with
  | staged g a d be => exact takeStaged_countsAgree n g a d be hs
  | arm g d be =>
    show (takeArmWord g d be s).CountsAgree
    rcases takeArmWord_cases s g d be with h | h | ⟨f, hf, h⟩ <;> rw [h]
    · exact hs
    · exact takeDiscard_countsAgree g hs
    · refine countsAgree_modGroup g f (s := s) rfl (fun _ _ _ => rfl) (fun hg => ?_) hs
      obtain ⟨h1, h2, h3⟩ := hf s.groups[g]
      simpa only [Group.Counted, h1, h2, h3] using hg

/-! ### Ticks and resets -/

theorem tornRound_countsAgree {g : GroupId} {s : State} (hg : s.groups[g].state = .armed) (hs : s.CountsAgree) :
    (s.tornRound g).CountsAgree := by
  refine countsAgree_modGroup g _ (s := s) rfl (fun j b hj => ?_) (fun _ => ?_) hs
  · rw [entriesOf_dropGathering, if_neg fun h => hj h.1]
  · rw [entriesOf_dropGathering, entriesOf_dropGathering, if_pos ⟨rfl, by rw [hg]; exact nofun⟩, if_pos ⟨rfl, fun _ => rfl⟩]
    exact ⟨rfl, rfl⟩

/-- The round that starts holds the entries counted, and none are gathered yet (R84). -/
theorem startedRound_countsAgree {g : GroupId} {s : State} (hg : s.groups[g].state = .armed) (hs : s.CountsAgree) :
    (s.startedRound g).CountsAgree := by
  refine countsAgree_modGroup g _ (s := s) rfl (fun _ _ _ => rfl) (fun h => ?_) hs
  change Group.Counted { s.groups[g] with state := .committing, roundSize := s.groups[g].entryCount, entryCount := 0 }
    (s.entriesOf g false) (s.entriesOf g true)
  simp only [Group.Counted, hg, reduceCtorEq, if_false, if_true] at h ⊢
  omega

theorem disarmed_countsAgree {g : GroupId} {s : State} (hg : s.groups[g].state = .armed) (hs : s.CountsAgree) :
    (s.modGroup g fun x => { x with state := .opened }).CountsAgree := by
  refine countsAgree_modGroup g _ (s := s) rfl (fun _ _ _ => rfl) (fun h => ?_) hs
  simpa only [Group.Counted, hg, reduceCtorEq, if_false] using h

theorem warmStaging_countsAgree (s : State) : (warmStaging s).CountsAgree := by
  rw [countsAgree_iff]
  intro g
  rw [warmStaging_group]
  exact ⟨rfl, rfl⟩

theorem takeGroupWord_countsAgree (g : GroupId) (k : Nat) (w : Word) {s : State} (hs : s.CountsAgree) :
    (takeGroupWord g k w s).CountsAgree := by
  rcases takeGroupWord_cases s g k w with h | ⟨c, h, -⟩ <;> rw [h] <;> exact hs

theorem StagingMoves.countsAgree {s t : State} (h : StagingMoves s t) : s.CountsAgree → t.CountsAgree := by
  induction h with
  | same h =>
    obtain ⟨hst, hg, -⟩ := stagingPart_iff.1 h
    exact countsAgree_of (fun g => by rw [hg]; exact ⟨Iff.rfl, rfl, rfl⟩) (entriesOf_congr hst)
  | purge n => exact purgeSlot_countsAgree n
  | word n k => exact takeStagingWord_countsAgree n k
  | torn g hg => exact tornRound_countsAgree hg
  | starts g hg => exact startedRound_countsAgree hg
  | disarms g hg => exact disarmed_countsAgree hg
  | warm => exact fun _ => warmStaging_countsAgree _
  | record g k w => exact takeGroupWord_countsAgree g k w
  | links | port => exact fun hs => hs
  | trans _ _ ih1 ih2 => exact ih2 ∘ ih1

end Sys2Proof.Machine
end

section
/-! SUPPORT. The swap sequencer's, the alarm unit's and the admission unit's operations as staging moves: all that they do to the
staging unit is the purge of a slot that stops being live (R90, R138), and all that they do to the input buffers is to empty them.
So every event is a chain of moves after its own act. -/

namespace Sys2Proof.Machine

open Sys2Proof

/-! ## Changes that the staging unit does not see -/

theorem staging_of_reportPart {s t : State} (h : t.reportPart = s.reportPart) : StagingMoves s t := by
  have hpart : t.reportPart.stagingPart = s.reportPart.stagingPart := congrArg State.stagingPart h
  exact .same hpart

/-- Acts that move, one after the other. -/
theorem Eff.andThen_staging {s : State} {e : Eff} {f : State → Eff} (he : StagingMoves s e.1)
    (hf : ∀ t, StagingMoves t (f t).1) : StagingMoves s (e.andThen f).1 := he.trans (hf _)

theorem foldEff_staging {α : Type} {f : α → State → Eff} (h : ∀ a t, StagingMoves t (f a t).1) :
    ∀ (l : List α) (s : State), StagingMoves s (foldEff f l s).1
  | [], s => .refl s
  | a :: l, s => (h a s).trans (foldEff_staging h l (f a s).1)

theorem handAll_staging (ns : List SlotId) (id : NoticeId) (d : SlotId → Details) (s : State) :
    StagingMoves s (handAll ns id d s).1 := staging_of_reportPart (handAll_reportPart ns id d s)

theorem handCommitDone_staging (g : GroupId) (r : CommitResult) (k : Nat) (s : State) :
    StagingMoves s (handCommitDone g r k s).1 := handAll_staging _ _ _ s

theorem queueNotice_staging (k : QueueNotice) (q : QueueId) (m : Nat) (s : State) :
    StagingMoves s (queueNotice k q m s).1 := by
  unfold queueNotice; split
  · exact staging_of_reportPart (handNotice_reportPart _ _ _ s)
  · exact .refl s

theorem modSwap_staging (s : State) (n : SlotId) (f : Swap → Swap) : StagingMoves s (s.modSwap n f) := .same rfl

theorem modAdm_staging (s : State) (n : SlotId) (f : Admission → Admission) : StagingMoves s (s.modAdm n f) := .same rfl

theorem modAccess_staging (s : State) (n : SlotId) (f : AccessRecord → AccessRecord) :
    StagingMoves s (s.modAccess n f) := .same rfl

theorem modList_staging (s : State) (n : SlotId) (f : NoticeList → NoticeList) : StagingMoves s (s.modList n f) := .same rfl

theorem marks_staging (s : State) (v : Vector Marks 12) : StagingMoves s { s with marks := v } := .same rfl

theorem queues_staging (s : State) (v : Vector Queue 64) : StagingMoves s { s with queues := v } := .same rfl

theorem modQueue_staging (s : State) (q : QueueId) (f : Queue → Queue) : StagingMoves s (s.modQueue q f) := .same rfl

theorem modRef_staging (s : State) (r : RefId) (f : Reference → Reference) : StagingMoves s (s.modRef r f) := .same rfl

theorem setWaiting_staging (s : State) (n : SlotId) (t : Option SlotTxn) : StagingMoves s (s.setWaiting n t) := .same rfl

theorem withdrawRead_staging (n : SlotId) (s : State) : StagingMoves s (withdrawRead n s) :=
  .same (by unfold withdrawRead; split <;> rfl)

/-! ## Changes of one link port -/

/-- A port whose buffer gets frames of 1 to 16 words, or loses frames. -/
theorem modLink_staging (s : State) (n : SlotId) {f : LinkPort → LinkPort}
    (h : ∀ r ∈ (f s.links[n]).buffer, r ∈ s.links[n].buffer ∨ r.Sized) : StagingMoves s (s.modLink n f) := by
  refine .links _ fun m r hr => ?_
  change r ∈ (s.modLink n f).links[m].buffer at hr
  rw [State.modLink_get] at hr
  split at hr
  · rename_i hm; subst hm; exact h r hr
  · exact .inl hr

/-- A port whose buffer stays. -/
theorem modLink_same (s : State) (n : SlotId) {f : LinkPort → LinkPort} (h : (f s.links[n]).buffer = s.links[n].buffer) :
    StagingMoves s (s.modLink n f) := modLink_staging s n fun _ hr => .inl (h ▸ hr)

/-- A port whose buffer is emptied. -/
theorem modLink_emptied (s : State) (n : SlotId) {f : LinkPort → LinkPort} (h : (f s.links[n]).buffer = []) :
    StagingMoves s (s.modLink n f) := modLink_staging s n fun r hr => by rw [h] at hr; cases hr

section Ports

variable (l : LinkPort)

theorem markGo_buffer : (markGo l).buffer = l.buffer := by unfold markGo; split <;> rfl

theorem markHold_buffer : (markHold l).buffer = l.buffer := by unfold markHold; split <;> rfl

theorem popFrame_buffer : (popFrame l).buffer = l.buffer.tail := markGo_buffer _

theorem alignPort_buffer : (alignPort l).buffer = l.buffer := by unfold alignPort; split <;> rfl

theorem idleArrives_buffer : (idleArrives l).buffer = l.buffer := by
  unfold idleArrives; split
  · rfl
  · split <;> rfl
  · rfl
  · rfl
  · rfl

theorem missEcho_buffer : (missEcho l).buffer = l.buffer := by unfold missEcho; dsimp only; split <;> rfl

theorem endWindow_buffer (k : Nat) : (endWindow k l).buffer = l.buffer := by unfold endWindow; split_ifs <;> rfl

theorem beginGo_buffer : (beginGo l).buffer = l.buffer := by unfold beginGo; split <;> rfl

theorem beginData_buffer : (beginData l).buffer = l.buffer := by unfold beginData; split <;> rfl

/-- An arrival stores its frame or none (R8). -/
theorem requestArrives_buffer (r : Request) :
    (requestArrives r l).buffer = l.buffer ∨ (requestArrives r l).buffer = l.buffer ++ [r] := by
  unfold requestArrives; split
  · exact .inl rfl
  · exact .inl rfl
  · exact .inl rfl
  · unfold storeFrame; split
    · exact .inr (markHold_buffer _)
    · exact .inl rfl
  · exact .inl rfl

end Ports

/-- A frame that arrives carries 1 to 16 words (R2, R8). -/
theorem requestArrives_staging (n : SlotId) {r : Request} (hr : r.Sized) (s : State) :
    StagingMoves s (s.modLink n (requestArrives r)) := by
  refine modLink_staging s n fun x hx => ?_
  rcases requestArrives_buffer s.links[n] r with h | h <;> rw [h] at hx
  · exact .inl hx
  · rcases List.mem_append.1 hx with hx | hx
    · exact .inl hx
    · rw [List.mem_singleton.1 hx]; exact .inr hr

/-- The head frame leaves the buffer (R9). -/
theorem popFrame_staging (n : SlotId) (s : State) : StagingMoves s (s.modLink n popFrame) :=
  modLink_staging s n fun _ hr => .inl (List.mem_of_mem_tail (popFrame_buffer _ ▸ hr))

theorem fenceLink_staging (n : SlotId) (s : State) : StagingMoves s (fenceLink n s) := by
  refine (withdrawRead_staging n s).trans (modLink_staging _ n fun r hr => ?_)
  unfold fencePort at hr; split at hr
  · exact .inl hr
  · cases hr

theorem loseAlignment_staging (n : SlotId) (s : State) : StagingMoves s (loseAlignment n s) := by
  have h : StagingMoves s ((withdrawRead n s).modLink n misalign) :=
    (withdrawRead_staging n s).trans (modLink_emptied _ n rfl)
  unfold loseAlignment; dsimp only; split
  · exact h.trans (modSwap_staging _ n _)
  · exact h

theorem failedFrame_staging (n : SlotId) (s : State) : StagingMoves s (failedFrame n s) := by
  have h : StagingMoves s (s.modLink n countFailure) := modLink_same s n rfl
  unfold failedFrame; split
  · exact .refl s
  · exact modLink_same s n rfl
  · exact .refl s
  · dsimp only; split
    · exact h.trans (loseAlignment_staging n _)
    · exact h

/-- Every port's buffer stays. -/
theorem links_staging (s : State) (v : Vector LinkPort 12) (h : ∀ n : SlotId, v[n].buffer = s.links[n].buffer) :
    StagingMoves s { s with links := v } := .links v fun n _ hr => .inl (h n ▸ hr)

theorem voidEchoes_staging (s : State) : StagingMoves s (voidEchoes s) :=
  links_staging s _ fun n => by rw [ofFn_get]; rfl

/-! ## A slot's change of swap state (chapter 8) -/

theorem switchLink_staging (n : SlotId) (a b : SwapState) (s : State) : StagingMoves s (switchLink n a b s).1 := by
  unfold switchLink; split_ifs
  · exact .refl s
  · exact modLink_same s n (alignPort_buffer _)
  · exact (withdrawRead_staging n s).trans (modLink_emptied _ n rfl)

theorem withdrawStale_staging (s : State) : StagingMoves s (withdrawStale s) :=
  .same (by
    unfold withdrawStale; split
    · split <;> rfl
    · rfl)

theorem detachSlot_staging (n : SlotId) (s : State) : StagingMoves s (detachSlot n s).1 := by
  refine ((queues_staging s _).trans (withdrawStale_staging _)).trans (foldEff_staging (fun q t => ?_) _ _)
  unfold detachNotice; split
  · exact .refl t
  · exact queueNotice_staging _ _ _ t

/-- The teardown purges the slot (R90, R138). -/
theorem teardown_staging (n : SlotId) (s : State) : StagingMoves s (teardown n s).1 := by
  exact (((modList_staging s n _).trans (.purge n)).trans (modAdm_staging _ n _)).trans (detachSlot_staging n _)

theorem moveSlot_staging (n : SlotId) (st : SwapState) (r : Reason) (s : State) : StagingMoves s (moveSlot n st r s).1 := by
  have henter : StagingMoves s (enterSwap n st r s) := (modSwap_staging s n _).trans (marks_staging _ _)
  have h := henter.trans (switchLink_staging n s.swaps[n].state st _)
  unfold moveSlot; dsimp only; split
  · exact h.trans (teardown_staging n _)
  · exact h

theorem changeSwap_staging (n : SlotId) (st : SwapState) (r c : Reason) {own : State → State}
    (ho : ∀ t, StagingMoves t (own t)) (s : State) : StagingMoves s (changeSwap n st r c own s).1 :=
  (moveSlot_staging n st r s).trans ((ho _).trans (handAll_staging _ _ _ _))

theorem startTimer_staging (n : SlotId) (ms : Nat) (s : State) : StagingMoves s (startTimer n ms s) := modSwap_staging s n _

theorem clearDraw_staging (n : SlotId) (s : State) : StagingMoves s (clearDraw n s) := modAdm_staging s n _

theorem attachSlot_staging (n : SlotId) (s : State) : StagingMoves s (attachSlot n s) := queues_staging s _

theorem enterOff_staging (n : SlotId) (c : Reason) (s : State) : StagingMoves s (enterOff n c s).1 :=
  changeSwap_staging n _ _ _ (clearDraw_staging n) s

theorem enterSeated_staging (n : SlotId) (s : State) : StagingMoves s (enterSeated n s).1 :=
  changeSwap_staging n _ _ _ .refl s

theorem takeSeat_staging (n : SlotId) (s : State) : StagingMoves s (takeSeat n s).1 := by
  refine Eff.andThen_staging (enterSeated_staging n s) fun t => ?_
  split
  · exact enterOff_staging n _ t
  · exact .refl t

theorem enterPowering_staging (n : SlotId) (s : State) : StagingMoves s (enterPowering n s).1 :=
  changeSwap_staging n _ _ _ (fun t =>
    ((startTimer_staging n _ t).trans (modAdm_staging _ n _)).trans (modAccess_staging _ n _)) s

theorem admitSlot_staging (n : SlotId) (s : State) : StagingMoves s (admitSlot n s).1 := by
  unfold admitSlot; split
  · exact Eff.andThen_staging (enterSeated_staging n s) (enterPowering_staging n)
  · exact enterPowering_staging n s

theorem takeRampEnd_staging (n : SlotId) (s : State) : StagingMoves s (takeRampEnd n s).1 :=
  changeSwap_staging n _ _ _ (fun t => startTimer_staging n _ t) s

theorem takeActivate_staging (n : SlotId) (s : State) : StagingMoves s (takeActivate n s).1 := by
  refine changeSwap_staging n _ _ _ (fun t => ?_) s
  dsimp only; split
  · exact modSwap_staging t n _
  · exact (modSwap_staging t n _).trans (attachSlot_staging n _)

theorem takeTurnOff_staging (n : SlotId) (c : Reason) (s : State) : StagingMoves s (takeTurnOff n c s).1 := by
  refine Eff.andThen_staging (enterOff_staging n c s) fun t => ?_
  split
  · exact takeSeat_staging n t
  · exact .refl t

theorem takePowerDown_staging (n : SlotId) (s : State) : StagingMoves s (takePowerDown n s).1 := takeTurnOff_staging n _ s

theorem takeFence_staging (n : SlotId) (s : State) : StagingMoves s (takeFence n s).1 := by
  unfold takeFence
  refine Eff.andThen_staging ?_ fun t => ?_
  · exact (fenceLink_staging n s).trans (changeSwap_staging n _ _ _ (fun t => startTimer_staging n _ t) _)
  · split
    · exact takePowerDown_staging n t
    · exact .refl t

theorem takeQuiesce_staging (n : SlotId) (c : Reason) (s : State) : StagingMoves s (takeQuiesce n c s).1 := by
  refine Eff.andThen_staging (changeSwap_staging n _ _ _ (fun t => startTimer_staging n _ t) s) fun t => ?_
  split
  · exact takeFence_staging n t
  · exact .refl t

theorem takeFaulted_staging (n : SlotId) (c : Reason) (s : State) : StagingMoves s (takeFaulted n c s).1 :=
  changeSwap_staging n _ _ _ (fun t => (clearDraw_staging n t).trans (modSwap_staging _ n _)) s

theorem takeLockOut_staging (n : SlotId) (s : State) : StagingMoves s (takeLockOut n s).1 :=
  changeSwap_staging n _ _ _ .refl s

theorem takeUnseat_staging (n : SlotId) (s : State) : StagingMoves s (takeUnseat n s).1 :=
  changeSwap_staging n _ _ _ (clearDraw_staging n) s

theorem takeLinkOpen_staging (n : SlotId) (s : State) : StagingMoves s (takeLinkOpen n s).1 := by
  unfold takeLinkOpen; split
  · exact takeActivate_staging n s
  · exact modSwap_staging s n _
  · exact modSwap_staging s n _
  · exact .refl s

theorem takeBackoff_staging (n : SlotId) (s : State) : StagingMoves s (takeBackoff n s).1 := by
  unfold takeBackoff; split
  · exact takeSeat_staging n s
  · exact takeLockOut_staging n s

/-! ## The slot lines (R127, R128) -/

theorem presentActs_staging (n : SlotId) (b : Bool) (s : State) : StagingMoves s (presentActs n b s).1 := by
  unfold presentActs; split_ifs
  · exact takeSeat_staging n s
  · exact .refl s
  · exact .refl s
  · exact takeUnseat_staging n s

theorem judgePresentLine_staging (n : SlotId) (b : Bool) (s : State) : StagingMoves s (judgePresentLine n b s).1 := by
  unfold judgePresentLine; dsimp only; split
  · exact (modSwap_staging s n _).trans (presentActs_staging n _ _)
  · exact .same rfl

theorem judgeFaultLine_staging (n : SlotId) (b : Bool) (s : State) : StagingMoves s (judgeFaultLine n b s).1 := by
  unfold judgeFaultLine; split
  · exact takeFaulted_staging n _ s
  · exact .refl s

theorem judgePgoodLine_staging (n : SlotId) (b : Bool) (s : State) : StagingMoves s (judgePgoodLine n b s).1 := by
  refine (modSwap_staging s n (countPgood b)).trans ?_
  unfold judgePgoodLine pgoodActs; split_ifs
  · exact takeRampEnd_staging n _
  · exact takeFaulted_staging n _ _
  · exact .refl _

theorem latchOpens_staging (n : SlotId) (s : State) : StagingMoves s (latchOpens n s).1 := by
  unfold latchOpens; split
  · exact takeTurnOff_staging n _ s
  · exact takeTurnOff_staging n _ s
  · exact takeQuiesce_staging n _ s
  · exact .same rfl
  · exact .refl s

theorem latchCloses_staging (n : SlotId) (s : State) : StagingMoves s (latchCloses n s).1 := by
  unfold latchCloses; split
  · split
    · exact takeActivate_staging n s
    · exact .refl s
  · split
    · exact takeSeat_staging n s
    · exact .refl s
  · exact .refl s

theorem judgeLatchLine_staging (n : SlotId) (b : Bool) (s : State) : StagingMoves s (judgeLatchLine n b s).1 := by
  unfold judgeLatchLine; dsimp only; split_ifs
  · exact (modSwap_staging s n _).trans (latchCloses_staging n _)
  · exact (modSwap_staging s n _).trans (latchOpens_staging n _)
  · exact .same rfl

theorem sampleSlot_staging (n : SlotId) (l : Lines) (s : State) : StagingMoves s (sampleSlot n l s).1 :=
  Eff.andThen_staging (Eff.andThen_staging (Eff.andThen_staging
    ((modSwap_staging s n _).trans (judgePresentLine_staging n _ _)) (judgeFaultLine_staging n _))
    (judgePgoodLine_staging n _)) (judgeLatchLine_staging n _)

/-! ## The slot commands and the policy (R130) -/

theorem takePowerOn_staging (n : SlotId) (s : State) : StagingMoves s (takePowerOn n s).1 := by
  unfold takePowerOn; dsimp only; split
  · exact (modSwap_staging s n _).trans (takeSeat_staging n _)
  · exact .same rfl

theorem takeRemove_staging (n : SlotId) (s : State) : StagingMoves s (takeRemove n s).1 := by
  refine (modSwap_staging s n fun w => { w with powerRequest := false }).trans ?_
  unfold takeRemove; dsimp only; split
  · exact takeTurnOff_staging n _ _
  · exact takeTurnOff_staging n _ _
  · exact takeTurnOff_staging n _ _
  · exact takeQuiesce_staging n _ _
  · exact modSwap_staging _ n _
  · exact modSwap_staging _ n _
  · exact takeTurnOff_staging n _ _
  · exact .refl _

theorem takeSlotCommand_staging (n : SlotId) (w : Word) (s : State) : StagingMoves s (takeSlotCommand n w s).1 := by
  unfold takeSlotCommand; split
  · exact takePowerOn_staging n s
  · exact takeRemove_staging n s
  · unfold takeClearLockout; split
    · exact (modSwap_staging s n _).trans (takeSeat_staging n _)
    · exact .refl s
  · exact .refl s

theorem policyActs_staging (n : SlotId) (old : Policy) (s : State) : StagingMoves s (policyActs n old s).1 := by
  unfold policyActs; split
  · split
    · exact takeTurnOff_staging n _ s
    · exact takeTurnOff_staging n _ s
    · exact takeTurnOff_staging n _ s
    · exact takeQuiesce_staging n _ s
    · exact .same rfl
    · exact .same rfl
    · exact .refl s
  · split
    · exact takeSeat_staging n s
    · exact .refl s

/-! ## The admission unit (chapter 9) and events -/

theorem markSheds_staging (k : Nat) (s : State) : StagingMoves s (markSheds k s).1 := by
  induction k generalizing s with
  | zero => exact .refl s
  | succ k ih =>
    unfold markSheds; split
    · split
      · exact (modAdm_staging s _ _).trans (ih _)
      · exact .refl s
    · exact .refl s

theorem takeShed_staging (n : SlotId) (s : State) : StagingMoves s (takeShed n s).1 := by
  unfold takeShed; split
  · exact takeTurnOff_staging n _ s
  · exact takeTurnOff_staging n _ s
  · exact takeQuiesce_staging n _ s
  · exact .same rfl
  · exact .refl s

theorem formBudget_staging (s : State) : StagingMoves s (formBudget s).1 :=
  (markSheds_staging 12 s).trans (foldEff_staging takeShed_staging _ _)

theorem tellShed_staging {act : State → Eff} {s : State} (h : StagingMoves s (act s).1) :
    StagingMoves s (tellShed act s).1 := by
  unfold tellShed; dsimp only; split
  · exact h
  · exact Eff.andThen_staging h fun t =>
      (.same rfl : StagingMoves t { t with onBattery := shedTriggered t }).trans (formBudget_staging _)

theorem takeInput_staging (i : Input) (s : State) : StagingMoves s (takeInput i s).1 :=
  tellShed_staging (staging_of_reportPart (inputAct_reportPart i s))

/-- An event moves on from where its own act leaves the state. -/
theorem event_staging (act : State → Eff) (s : State) : StagingMoves (act s).1 (event act s) :=
  event_keeps (StagingMoves (act s).1) (fun i t ht => ht.trans (takeInput_staging i t))
    (fun n t _ ht => ht.trans (admitSlot_staging n t)) (fun _ _ ht => ht.trans (.same rfl)) act s (.refl _)

/-- An event moves where its own act does. -/
theorem staging_event {act : State → Eff} {s : State} (h : StagingMoves s (act s).1) : StagingMoves s (event act s) :=
  h.trans (event_staging act s)

end Sys2Proof.Machine
end

section
/-! SUPPORT. The other blocks' operations as staging moves: links, queues, the staging unit itself, the memory port, the
timebase, the environment, the windows and the control shadow. -/

namespace Sys2Proof.Machine

open Sys2Proof

/-! ## Single fields that the staging unit does not see -/

section Fields

variable (s : State)

theorem time_staging (t : Timebase) : StagingMoves s { s with time := t } := .same rfl

theorem scan_staging (c : Scan) : StagingMoves s { s with scan := c } := .same rfl

theorem mem_staging (m : Memory) : StagingMoves s { s with mem := m } := .same rfl

theorem relays_staging (v : Vector Relay 4) : StagingMoves s { s with relays := v } := .same rfl

theorem lists_staging (v : Vector NoticeList 12) : StagingMoves s { s with lists := v } := .same rfl

theorem waiting_staging (v : Vector (Option SlotTxn) 12) :
    StagingMoves s { s with port := { s.port with waiting := v } } := .same rfl

theorem zeroing_staging (q : Option QueueId) : StagingMoves s { s with port := { s.port with zeroing := q } } := .same rfl

/-- A change of the copy that leaves the groups' records alone. -/
theorem cfg_staging {c : Cfg} (h : c.groups = s.cfg.groups) : StagingMoves s { s with cfg := c } :=
  .same (stagingPart_iff.2 ⟨rfl, rfl, h, rfl, rfl, rfl, rfl, rfl⟩)

end Fields

/-! ## Links (chapter 1) -/

theorem judgeReply_staging (n : SlotId) (e : Echo) (k : Nat) (s : State) : StagingMoves s (judgeReply n e k s).1 := by
  have hopen : ∀ d, StagingMoves s (s.modLink n (openLink d)) := fun _ => modLink_same s n rfl
  have hgood : ∀ d, StagingMoves s (s.modLink n (goodEcho d)) := fun _ => modLink_same s n rfl
  unfold judgeReply; dsimp only; split_ifs
  · exact Eff.andThen_staging (hopen _) (takeLinkOpen_staging n)
  · exact hgood _
  · exact modLink_same s n (missEcho_buffer _)

theorem replyArrives_staging (n : SlotId) (seq : BitVec 16) (k : Nat) (s : State) :
    StagingMoves s (replyArrives n seq k s).1 := by
  have h : StagingMoves s (s.modLink n passedCheck) := modLink_same s n rfl
  unfold replyArrives; split
  · exact .refl s
  · dsimp only; exact modLink_same s n rfl
  · exact .refl s
  · dsimp only; split
    · split
      · exact h.trans (judgeReply_staging n _ k _)
      · exact h
    · exact h

theorem beginNotice_staging (n : SlotId) (s : State) : StagingMoves s (beginNotice n s) := by
  unfold beginNotice; split
  · exact (modList_staging s n _).trans (modLink_same _ n rfl)
  · exact .refl s

theorem handFence_staging (n : SlotId) (s : State) : StagingMoves s (handFence n s).1 := by
  unfold handFence; split
  · exact (popFrame_staging n s).trans (takeFence_staging n _)
  · exact popFrame_staging n s

/-! ## Queues (chapter 3) -/

theorem withdrawZeroing_staging (q : QueueId) (s : State) : StagingMoves s (withdrawZeroing q s) := by
  unfold withdrawZeroing; split
  · exact zeroing_staging s none
  · exact .refl s

theorem takeOpen_staging (q : QueueId) (s : State) : StagingMoves s (takeOpen q s) := by
  unfold takeOpen; dsimp only; split_ifs
  · exact .refl s
  · exact modQueue_staging s q _
  · exact modQueue_staging s q _
  · exact modQueue_staging s q _
  · exact modQueue_staging s q _

theorem takeClose_staging (q : QueueId) (s : State) : StagingMoves s (takeClose q s) := by
  unfold takeClose; split
  · exact .refl s
  · exact ((modQueue_staging s q _).trans (withdrawZeroing_staging q _)).trans (lists_staging _ _)

theorem offerZeroing_staging (s : State) : StagingMoves s (offerZeroing s) := by
  unfold offerZeroing; split
  · exact .refl s
  · split
    · exact (modQueue_staging s _ _).trans (zeroing_staging _ _)
    · exact .refl s

theorem judgeIndex_staging (n : SlotId) (q : QueueId) (b : Bool) (new : Nat) (s : State) :
    StagingMoves s (judgeIndex n q b new s).eff.1 := by
  have hproducer : StagingMoves s (producerAdvance q new s).1 := by
    unfold producerAdvance; dsimp only; split_ifs
    · exact (modQueue_staging s q _).trans (queueNotice_staging _ _ _ _)
    · exact .same rfl
  have hconsumer : StagingMoves s (consumerAdvance q new s).1 := by
    unfold consumerAdvance; dsimp only; split
    · exact (modQueue_staging s q _).trans (queueNotice_staging _ _ _ _)
    · exact .same rfl
  have hoverrun : StagingMoves s (producerOverrun q s).1 :=
    Eff.andThen_staging ((modQueue_staging s q _).trans (queueNotice_staging _ _ _ _)) .refl
  unfold judgeIndex; dsimp only; split_ifs
  · exact .refl s
  · exact .refl s
  · exact .refl s
  · exact hproducer
  · exact hoverrun
  · exact .refl s
  · exact .refl s
  · exact hconsumer
  · exact .refl s

theorem readyNotices_staging (q : QueueId) (s : State) : StagingMoves s (readyNotices q s).1 := by
  unfold readyNotices; dsimp only; split
  · exact queueNotice_staging _ _ _ s
  · exact Eff.andThen_staging (queueNotice_staging _ _ _ s) (queueNotice_staging _ _ _)

theorem zeroed_staging (q : QueueId) (s : State) : StagingMoves s (zeroed q s).1 := by
  unfold zeroed; split
  · exact (modQueue_staging s q _).trans (readyNotices_staging q _)
  · exact .refl s

/-! ## The staging unit (chapter 5) -/

theorem handStaging_staging (n : SlotId) : ∀ (ks : List StagingWord) (s : State), StagingMoves s (handStaging n ks s)
  | [], _ => .refl _
  | k :: rest, _ => (StagingMoves.word n k).trans (handStaging_staging n rest _)

theorem takeDue_staging {g : GroupId} {s : State} (h : s.groups[g].state = .armed) : StagingMoves s (takeDue g s).1 := by
  unfold takeDue; dsimp only; split
  · exact Eff.andThen_staging ((StagingMoves.torn g h).trans (handCommitDone_staging g _ _ _)) .refl
  · exact .starts g h

theorem judgeHolds_staging (s : State) : StagingMoves s (judgeHolds s) := waiting_staging s _

theorem dueGroups_staging (f : Nat) (s : State) : StagingMoves s (dueGroups f s).1 := by
  refine (foldEff_staging (fun g t => ?_) _ s).trans (judgeHolds_staging _)
  split
  · rename_i h
    simp only [isDue, decide_eq_true_eq] at h
    exact takeDue_staging h.1
  · exact .refl t

theorem disarmGroups_staging (s : State) : StagingMoves s (disarmGroups s).1 := by
  refine foldEff_staging (fun g t => ?_) _ s
  split
  · rename_i h
    exact (StagingMoves.disarms g h).trans (handCommitDone_staging g _ _ _)
  · exact .refl t

theorem anyCommitting_congr {s t : State} (h : t.groups = s.groups) : anyCommitting t = anyCommitting s := by
  unfold anyCommitting; rw [h]

theorem warmLinks_staging (s : State) : StagingMoves s (warmLinks s) := by
  have hlinks : StagingMoves s { s with links := Vector.ofFn fun n => warmPort s.links[n] } :=
    .links _ fun n r hr => by rw [ofFn_get, warmPort, markGo_buffer] at hr; cases hr
  unfold warmLinks
  exact hlinks.trans (waiting_staging _ _)

theorem closeQueues_staging (s : State) : StagingMoves s (closeQueues s) := by
  have h : ∀ (v : Vector Queue 64) (z : Option QueueId),
      StagingMoves s { s with queues := v, port := { s.port with zeroing := z } } := fun _ _ => .same rfl
  exact h _ none

theorem closeQueues_groups (s : State) : (closeQueues s).groups = s.groups := rfl

theorem warmLinks_groups (s : State) : (warmLinks s).groups = s.groups := rfl

theorem emptyLists_groups (s : State) : (emptyLists s).groups = s.groups := rfl

theorem emptyLists_staging (s : State) : StagingMoves s (emptyLists s) := lists_staging s _

/-- What a WARM_RESET adds to the reset of the staging unit: TIME latches and change marks (R194). -/
theorem latches_staging (s : State) (v : Vector Latch 12) (m : Vector Marks 12) (b : Bool) :
    StagingMoves s { s with latches := v, marks := m, warmPending := b } := .same rfl

/-- A WARM_RESET is carried out with no group COMMITTING (R194). -/
theorem carryOutWarm_staging {s : State} (h : anyCommitting s = false) : StagingMoves s (carryOutWarm s) := by
  have hports := ((warmLinks_staging s).trans (closeQueues_staging _)).trans (emptyLists_staging _)
  have hgroups := ((emptyLists_groups _).trans (closeQueues_groups _)).trans (warmLinks_groups s)
  have hidle := (anyCommitting_congr hgroups).trans h
  exact (hports.trans (.warm hidle)).trans (latches_staging _ _ _ _)

theorem takeWarm_staging (s : State) : StagingMoves s (takeWarm s) := by
  unfold takeWarm; split
  · exact .same rfl
  · rename_i h
    exact carryOutWarm_staging (Bool.not_eq_true _ ▸ h)

theorem warmIfDue_staging (s : State) : StagingMoves s (warmIfDue s) := by
  unfold warmIfDue; split
  · rename_i h
    simp only [Bool.and_eq_true, Bool.not_eq_true'] at h
    exact carryOutWarm_staging h.2
  · exact .refl s

/-! ## The memory port (section 2.6) -/

/-- The port with a transaction in flight that is not the commit engine's. -/
theorem flight_staging (s : State) {f : Option Flight} (v : Vector (Option SlotTxn) 12) (z : Option QueueId) (n : SlotId)
    (h : ∀ ws, f ≠ some (.commit ws)) :
    StagingMoves s { s with port := { flight := f, waiting := v, commit := s.port.commit, zeroing := z, last := n } } :=
  .port _ ⟨fun _ hc => hc, fun ws hf => absurd hf (h ws)⟩

theorem slotFlight_not_commit (s : State) (n : SlotId) (ws : List WriteWord) : slotFlight s n ≠ some (.commit ws) := by
  unfold slotFlight; split <;> exact nofun

theorem takeGrant_staging (s : State) : StagingMoves s (takeGrant s) := by
  unfold takeGrant; split
  · exact .refl s
  · split
    · rename_i ws _ _ _ hc
      exact .port _ ⟨nofun, fun vs hf => .inr ⟨by cases hf; exact hc, rfl⟩⟩
    · exact .port _ ⟨fun _ hc => hc, nofun⟩
    · exact .port _ ⟨fun _ hc => hc, nofun⟩
    · rename_i n _ _ _ _
      exact (flight_staging s _ _ n (slotFlight_not_commit s n)).trans (handStaging_staging n _ _)
    · exact .refl s

theorem freePort_staging (s : State) : StagingMoves s (freePort s) := flight_staging s _ _ _ nofun

theorem completeRead_staging (n : SlotId) (id : Nat) (as : List Nat) (s : State) :
    StagingMoves s (completeRead n id as s) := (freePort_staging s).trans (modLink_same _ n rfl)

theorem completeWrite_staging (ws : List WriteWord) (s : State) : StagingMoves s (completeWrite ws s) :=
  (freePort_staging s).trans (mem_staging _ _)

theorem completeLog_staging (ws : List WriteWord) (s : State) : StagingMoves s (completeLog ws s) := by
  have hlog : ∀ (t : State) (l : LogWriter), StagingMoves t { t with log := l } := fun t l => .same rfl
  exact (completeWrite_staging ws s).trans (hlog _ _)

theorem completeZeroing_staging (q : QueueId) (base : Nat) (s : State) : StagingMoves s (completeZeroing q base s).1 :=
  ((freePort_staging s).trans (mem_staging _ _)).trans (zeroed_staging q _)

theorem completeStartUp_staging (k : Nat) (s : State) : StagingMoves s (completeStartUp k s) := by
  have h : ∀ (m : Memory) (x : Option Nat), StagingMoves s { s with mem := m, startUp := x } := fun _ _ => .same rfl
  exact h _ _

/-! ## The timebase (chapters 6 and 7) -/

theorem chooseActive_staging (s : State) : StagingMoves s (chooseActive s).1 := by
  unfold chooseActive; dsimp only; split
  · split
    · exact .refl s
    · exact .same rfl
  · exact time_staging s _
  · exact time_staging s _

theorem takeRefConfig_staging (r : RefId) (e : Bool) (p : Nat) (s : State) :
    StagingMoves s (takeRefConfig r e p s).1 := by
  unfold takeRefConfig; dsimp only
  refine StagingMoves.trans ?_ (chooseActive_staging _)
  split
  · exact .same rfl
  · exact cfg_staging s rfl

theorem clock_staging (s : State) (t : Timebase) (v : Vector Reference 2) (c : Scan) :
    StagingMoves s { s with time := t, refs := v, scan := c } := .same rfl

theorem adjustTime_staging (x : Int) (s : State) : StagingMoves s (adjustTime x s) :=
  (clock_staging s _ _ s.scan).trans (voidEchoes_staging _)

theorem acquireAct_staging (e : Int) (s : State) : StagingMoves s (acquireAct e s) := by
  unfold acquireAct; split
  · exact (adjustTime_staging _ s).trans (time_staging _ _)
  · exact time_staging s _

theorem lockedAct_staging (e : Int) (s : State) : StagingMoves s (lockedAct e s) := by
  unfold lockedAct; split_ifs <;> exact time_staging s _

theorem loopAct_staging (r : RefId) (cap : Stamp) (s : State) : StagingMoves s (loopAct r cap s) := by
  unfold loopAct; dsimp only; split
  · exact (time_staging s _).trans (lockedAct_staging _ _)
  · exact (time_staging s _).trans (acquireAct_staging _ _)
  · exact (time_staging s _).trans (acquireAct_staging _ _)
  · exact (time_staging s _).trans (acquireAct_staging _ _)

theorem pulseActs_staging (r : RefId) (cap : Stamp) (b : Option RefId) (s : State) :
    StagingMoves s (pulseActs r cap b s) := by
  unfold pulseActs; split
  · exact (adjustTime_staging _ s).trans (time_staging _ _)
  · split
    · exact loopAct_staging r cap s
    · exact .refl s

theorem tickGroups_staging (disc : Bool) (s : State) : StagingMoves s (tickGroups disc s).1 := by
  unfold tickGroups; split
  · exact disarmGroups_staging s
  · exact dueGroups_staging _ s

theorem takeTick_staging (disc : Bool) (order : TickOrder) (s : State) : StagingMoves s (takeTick disc order s).1 := by
  have hframe : ∀ f, StagingMoves s { s with frame := f } := fun f => .same rfl
  have hnotices : ∀ t, StagingMoves t (handFrames disc t).1 := fun t => handAll_staging _ _ _ t
  unfold takeTick; dsimp only; split
  · exact .refl s
  · split
    · exact (hframe _).trans (Eff.andThen_staging (tickGroups_staging disc _) hnotices)
    · exact (hframe _).trans (Eff.andThen_staging (hnotices _) (tickGroups_staging disc))

theorem judgePulse_staging (r : RefId) (cap : Stamp) (order : TickOrder) (s : State) :
    StagingMoves s (judgePulse r cap order s).1 := by
  unfold judgePulse; dsimp only; split
  · exact (((modRef_staging s r _).trans (chooseActive_staging _)).trans (pulseActs_staging r cap _ _)).trans
      (takeTick_staging true order _)
  · exact .same rfl

theorem takePulse_staging (r : RefId) (order : TickOrder) (s : State) : StagingMoves s (takePulse r order s).1 := by
  unfold takePulse; split
  · split
    · exact (modRef_staging s r _).trans (judgePulse_staging r _ order _)
    · exact .refl s
  · exact .refl s

theorem takeMiss_staging (r : RefId) (s : State) : StagingMoves s (takeMiss r s).1 := by
  unfold takeMiss; split
  · exact (modRef_staging s r _).trans (chooseActive_staging _)
  · exact .same rfl

theorem takeHoldSecond_staging (s : State) : StagingMoves s (takeHoldSecond s).1 := by
  unfold takeHoldSecond; dsimp only; split <;> exact time_staging s _

/-- A tick of the millisecond divider moves timers alone (R94). -/
theorem millisecond_staging (s : State) : StagingMoves s (millisecond s) := by
  have hlinks := links_staging s (Vector.ofFn fun n => tickLink s.links[n]) fun n => by rw [ofFn_get]; rfl
  have hrest : ∀ (t : State) (w : Vector Swap 12) (p : Vector Point 58) (x : Timebase) (c : Scan) (d : Vector Bool 8),
      StagingMoves t { t with swaps := w, points := p, time := x, scan := c, contactDue := d } :=
    fun _ _ _ _ _ _ => .same rfl
  exact hlinks.trans (hrest _ _ _ _ _ _)

theorem takePeriod_staging (order : TickOrder) (s : State) : StagingMoves s (takePeriod order s).1 := by
  have hadvance : StagingMoves s (advancePeriod s) := clock_staging s _ _ _
  have hcount : ∀ t, StagingMoves t (countPeriod t) := fun t => by
    unfold countPeriod; split
    · exact (time_staging t _).trans (millisecond_staging _)
    · exact time_staging t _
  exact (hadvance.trans (hcount _)).trans (takeTick_staging false order _)

/-! ## The environment (chapter 11) -/

theorem startPass_staging (s : State) : StagingMoves s (startPass s) := by
  unfold startPass; split <;> exact scan_staging s _

theorem nextChannel_staging (j : ChannelId) (s : State) : StagingMoves s (nextChannel j s) := by
  unfold nextChannel; split
  · exact scan_staging s _
  · unfold endPass; split
    · exact (scan_staging s _).trans (startPass_staging _)
    · exact scan_staging s _

theorem takeScanNow_staging (s : State) : StagingMoves s (takeScanNow s) := by
  unfold takeScanNow; split
  · exact scan_staging s _
  · exact startPass_staging s

theorem takeInterval_staging (s : State) : StagingMoves s (takeInterval s) := by
  unfold takeInterval; dsimp only; split
  · exact scan_staging s _
  · exact (scan_staging s _).trans (startPass_staging _)

theorem modChannel_staging (s : State) (j : ChannelId) (f : Channel → Channel) : StagingMoves s (s.modChannel j f) :=
  .same rfl

theorem takeResult_staging (j : ChannelId) (r : Nat) (s : State) : StagingMoves s (takeResult j r s).1 :=
  (modChannel_staging s j _).trans (nextChannel_staging j _)

theorem takeChannelConfig_staging (j : ChannelId) (new : ChannelCfg) (s : State) :
    StagingMoves s (takeChannelConfig j new s).1 := by
  have hcfg : StagingMoves s { s with cfg := { s.cfg with channels := s.cfg.channels.set j new } } := cfg_staging s rfl
  unfold takeChannelConfig; dsimp only; split_ifs
  · exact (hcfg.trans (nextChannel_staging j _)).trans (modChannel_staging _ j _)
  · exact hcfg.trans (modChannel_staging _ j _)
  · exact hcfg.trans (nextChannel_staging j _)
  · exact hcfg

/-! ## Windows (chapter 2) -/

theorem recordFault_staging (n : SlotId) (a : Word) (k : AccessKind) (s : State) :
    StagingMoves s (recordFault n a k s).1 := .same rfl

theorem recordWorst_staging (n : SlotId) (ps : List Placed) (s : State) : StagingMoves s (recordWorst n ps s).1 := by
  unfold recordWorst; split
  · exact recordFault_staging n _ _ s
  · exact .refl s

theorem appendWord_staging (n : SlotId) (w : WriteWord) (s : State) : StagingMoves s (appendWord n w s) := by
  unfold appendWord; split <;> exact setWaiting_staging s n _

theorem keepOrHand_staging (n : SlotId) (ks : List StagingWord) (s : State) : StagingMoves s (keepOrHand n ks s) := by
  unfold keepOrHand; split
  · exact setWaiting_staging s n _
  · exact handStaging_staging n ks s

/-- The head READ leaves the buffer (R9, R11). -/
theorem takeRead_staging (n : SlotId) (tag : Byte) (addr : Word) (count : Nat) (s : State) :
    StagingMoves s (takeRead n tag addr count s).1 := by
  have hlatch : ∀ b : Bool, StagingMoves s (if b then takeLatch n s else s) := fun b => by
    cases b
    · exact .refl s
    · exact .same rfl
  have haccept : ∀ (e : ReadEntry) (t : State), StagingMoves t (t.modLink n (acceptRead e)) := fun e t =>
    modLink_staging t n fun _ hr => .inl (List.mem_of_mem_tail (popFrame_buffer _ ▸ hr))
  unfold takeRead; dsimp only
  exact ((((hlatch _).trans (haccept _ _)).trans (marks_staging _ _)).trans (setWaiting_staging _ n _)).trans
    (recordWorst_staging n _ _)

/-! ## The control shadow (chapter 13) -/

theorem takeQueueWord_staging (q : QueueId) (k : Nat) (be : Mask) (w : Word) (s : State) :
    StagingMoves s (takeQueueWord q k be w s) := by
  unfold takeQueueWord; split_ifs
  · split
    · exact takeOpen_staging q s
    · exact takeClose_staging q s
    · exact .refl s
  · exact cfg_staging s rfl
  · exact .refl s

theorem takeSlotWord_staging (n : SlotId) (k : Nat) (be : Mask) (w : Word) (s : State) :
    StagingMoves s (takeSlotWord n k be w s).1 := by
  have h : ∀ v, StagingMoves s { s with cfg := { s.cfg with slots := v } } := fun v => cfg_staging s rfl
  unfold takeSlotWord; dsimp only; split
  · split
    · exact (h _).trans (policyActs_staging n _ _)
    · exact h _
  · exact h _
  · exact takeSlotCommand_staging n w s
  · exact .refl s

theorem takePointWord_staging (p : PointId) (k : Nat) (w : Word) (s : State) : StagingMoves s (takePointWord p k w s).1 := by
  have h : StagingMoves s (setPointCfg p k w s) := cfg_staging s rfl
  unfold takePointWord; split
  · exact tellShed_staging (Eff.andThen_staging (h.trans (staging_of_reportPart (pointActs_reportPart p _ _ _)))
      fun t => relays_staging t _)
  · exact h

theorem takeAckWord_staging (w : Word) (s : State) : StagingMoves s (takeAckWord w s).1 :=
  foldEff_staging (fun p t => tellShed_staging (staging_of_reportPart (ackPoint_reportPart p t))) _ s

theorem takeLogCode_staging (w : Word) (s : State) : StagingMoves s (takeLogCode w s) := by
  have hcfg : ∀ c, StagingMoves s { s with cfg := { s.cfg with logCode := c } } := fun c => cfg_staging s rfl
  unfold takeLogCode; dsimp only; split_ifs
  · exact .refl s
  · exact (hcfg _).trans (.same rfl)
  · exact hcfg _

theorem judgeSetting_groups (c : Cfg) (k : Nat) (w : Word) : (judgeSetting c k w).groups = c.groups := by
  unfold judgeSetting; split <;> rfl

theorem judgeRelays_staging (s : State) : StagingMoves s (judgeRelays s) := relays_staging s _

theorem forceRelays_staging (mask : Nat) (f : Force) (s : State) : StagingMoves s (forceRelays mask f s) :=
  (relays_staging s _).trans (judgeRelays_staging _)

theorem takeRelayConfig_staging (k : RelayId) (w : Word) (s : State) : StagingMoves s (takeRelayConfig k w s) := by
  have hcfg : ∀ v, StagingMoves s { s with cfg := { s.cfg with relays := v } } := fun _ => cfg_staging s rfl
  exact (hcfg _).trans (judgeRelays_staging _)

theorem takeGlobalWord_staging (k : Nat) (w : Word) (s : State) : StagingMoves s (takeGlobalWord k w s).1 := by
  unfold takeGlobalWord; split
  · dsimp only; split
    · exact takeWarm_staging s
    · exact .refl s
  · exact takeAckWord_staging w s
  · dsimp only; split
    · exact takeScanNow_staging s
    · exact .refl s
  · dsimp only; split
    · exact time_staging s _
    · exact .refl s
  · exact forceRelays_staging _ _ s
  · exact forceRelays_staging _ _ s
  · exact forceRelays_staging _ _ s
  · exact (cfg_staging s (c := judgeBudgets s.cfg w) rfl).trans (formBudget_staging _)
  · exact takeRefConfig_staging 0 _ _ s
  · exact takeRefConfig_staging 1 _ _ s
  · exact cfg_staging s rfl
  · unfold takeLogBase; dsimp only; split
    · exact .refl s
    · exact cfg_staging s rfl
  · exact takeLogCode_staging w s
  · unfold takeLogRead; dsimp only; split
    · exact .refl s
    · exact cfg_staging s rfl
  · split_ifs
    · exact takeChannelConfig_staging _ _ s
    · exact takeRelayConfig_staging _ w s
    · exact cfg_staging s (judgeSetting_groups s.cfg _ w)

/-- A region word taken, whatever its record (R191). -/
theorem takeRegion_staging (idx : RegionIdx) (d : Word) (be : Mask) (s : State) :
    StagingMoves s (takeRegion idx d be s).1 := by
  unfold takeRegion takeFormed; split
  · exact takeGlobalWord_staging _ _ s
  · exact takeSlotWord_staging _ _ _ _ s
  · exact cfg_staging s rfl
  · exact takeQueueWord_staging _ _ _ _ s
  · exact .record _ _ _
  · exact takePointWord_staging _ _ _ s
  · exact .refl s

/-! ## The words of a WRITE (R27) -/

theorem showRegion_staging (n : SlotId) (sa : Word) (a : Nat) (d : Word) (be : Mask) (f : Bool) (s : State) :
    StagingMoves s (showRegion n sa a d be f s).1 := by
  unfold showRegion; split_ifs
  · exact .refl s
  · exact recordFault_staging n sa _ s
  · exact Eff.andThen_staging (takeRegion_staging _ d be s) (appendWord_staging n _)

theorem showIndex_staging (n : SlotId) (sa : Word) (a : Nat) (q : QueueId) (b : Bool) (d : Word) (be : Mask) (s : State) :
    StagingMoves s (showIndex n sa a q b d be s).1 := by
  have happend : ∀ (c : Bool) (w : WriteWord) (t : State), StagingMoves t (if c then appendWord n w t else t) :=
    fun c w t => by
      cases c
      · exact .refl t
      · exact appendWord_staging n w t
  unfold showIndex; dsimp only
  refine Eff.andThen_staging (judgeIndex_staging n q b _ s) fun t => ?_
  split
  · exact (happend _ _ t).trans (recordFault_staging n sa _ _)
  · exact happend _ _ t

theorem showWord_staging (n : SlotId) (sa : Word) (a : Nat) (d : Word) (be : Mask) (f : Bool) (s : State) :
    StagingMoves s (showWord n sa a d be f s).1 := by
  unfold showWord; split
  · exact showRegion_staging n sa a d be f s
  · split
    · exact showIndex_staging n sa a _ _ d be s
    · exact appendWord_staging n _ s

theorem showWords_staging (n : SlotId) : ∀ (rs : List Routed) (f : Bool) (s : State),
    StagingMoves s (showWords n rs f s).1
  | [], _, s => .refl s
  | .mem sa a d be :: rest, f, s => Eff.andThen_staging (showWord_staging n sa a d be f s) (showWords_staging n rest _)
  | .staging _ :: rest, f, s => showWords_staging n rest f s

theorem takeWrite_staging (n : SlotId) (addr : Word) (first last : Mask) (data : List Word) (s : State) :
    StagingMoves s (takeWrite n addr first last data s).1 :=
  Eff.andThen_staging (recordWorst_staging n _ s) fun t =>
    Eff.andThen_staging (showWords_staging n _ false t) (keepOrHand_staging n _)

end Sys2Proof.Machine
end

section
/-! SUPPORT. The commit engine's own operations (R85, R87): a round's transaction offered, the entries of one that has completed
dropped, a round ended; and the invariants of the staging unit under them. -/

namespace Sys2Proof.Machine

open Sys2Proof

/-! ## What the engine does -/

/-- The record of a group whose round has ended (R87). -/
def reopened (x : Group) : Group :=
  match x.pendingArm with
  | some f => { x with state := .armed, armedFrame := f, pendingArm := none }
  | none => { x with state := .opened }

/-- The state once the round of group g has ended, before its notice (R87). -/
def State.closedRound (g : GroupId) (s : State) : State :=
  { s with staged := s.staged.map (makeCurrent g), rounds := s.rounds.tail, serving := false }.modGroup g reopened

/-- The state with a transaction of the round under way offered to the port (R85). -/
def State.offering (ws : List WriteWord) (s : State) : State :=
  { s with serving := true, port := { s.port with commit := some ws } }

/-- The port free after a commit transaction, whose words are in memory (R35). -/
def State.committed (ws : List WriteWord) (s : State) : State := { freePort s with mem := writeWords s.mem ws }

theorem reopened_state (x : Group) : (reopened x).state ≠ .committing := by
  unfold reopened; split <;> exact nofun

theorem reopened_entryCount (x : Group) : (reopened x).entryCount = x.entryCount := by
  unfold reopened; split <;> rfl

theorem takeRun_subset (k a : Nat) (l : List Staged) : takeRun k a l ⊆ l := by
  induction l generalizing k a with
  | nil => cases k <;> exact List.nil_subset _
  | cons e rest ih =>
    cases k with
    | zero => exact List.nil_subset _
    | succ k =>
      unfold takeRun; split
      · exact List.cons_subset_cons e (ih k _)
      · exact List.nil_subset _

theorem nextRun_subset (l : List Staged) : nextRun l ⊆ l := by
  cases l with
  | nil => exact List.nil_subset _
  | cons e rest => exact List.cons_subset_cons e (takeRun_subset _ _ rest)

theorem nextRun_eq_nil {l : List Staged} (h : nextRun l = []) : l = [] := by
  cases l with
  | nil => rfl
  | cons e rest => cases h

/-- The engine ends a round with no entries left, or offers words of the round's entries (R85, R87). -/
theorem serveRound_cases (g : GroupId) (s : State) :
    (roundEntries g s = [] ∧ StagingMoves (s.closedRound g) (serveRound g s).1) ∨
    ∃ e es, (∀ x ∈ e :: es, x ∈ s.staged ∧ x.group = g) ∧ (serveRound g s).1 = s.offering ((e :: es).map commitWord) := by
  unfold serveRound
  split
  · rename_i h
    refine .inl ⟨nextRun_eq_nil h, Eff.andThen_staging (handCommitDone_staging g _ _ _) fun t => ?_⟩
    exact (judgeHolds_staging t).trans (warmIfDue_staging _)
  · rename_i e es h
    refine .inr ⟨e, es, fun x hx => ?_, rfl⟩
    have hround := List.mem_filter.1 (nextRun_subset _ (h ▸ hx))
    simp only [Bool.and_eq_true, decide_eq_true_eq] at hround
    exact ⟨hround.1, hround.2.1⟩

theorem roundEntries_nil {g : GroupId} {s : State} (h : roundEntries g s = []) {e : Staged} (he : e ∈ s.staged)
    (hg : e.group = g) : e.next = true := by
  simpa [hg] using List.filter_eq_nil_iff.1 h e he

/-- A completed commit transaction leaves the engine nothing at the port. -/
theorem committed_staging (ws : List WriteWord) (s : State) : StagingMoves s (s.committed ws) :=
  (freePort_staging s).trans (mem_staging _ _)

/-! ## The bursts and the staging list -/

theorem serveRound_burstsOk (g : GroupId) {s : State} (hs : s.BurstsOk) : (serveRound g s).1.BurstsOk := by
  rcases serveRound_cases g s with ⟨-, hmoves⟩ | ⟨e, es, -, h⟩
  · exact hmoves.burstsOk hs
  · rw [h]; exact hs

/-- An entry's key after the round of group g has ended. -/
def currentKey (g : GroupId) (k : GroupId × Nat × Bool) : GroupId × Nat × Bool := if k.1 = g then (k.1, k.2.1, false) else k

theorem makeCurrent_key (g : GroupId) (e : Staged) : (makeCurrent g e).key = currentKey g e.key := by
  unfold makeCurrent currentKey
  by_cases h : e.group = g <;> simp [Staged.key, h]

/-- A round that ends has no entries left, so its next-round entries become current with no address twice (R87, R91). -/
theorem closedRound_stagingOk {g : GroupId} {s : State} (hnone : roundEntries g s = []) (hs : s.StagingOk) :
    (s.closedRound g).StagingOk := by
  rw [stagingOk_iff] at hs ⊢
  obtain ⟨hlen, hplace, hnodup⟩ := hs
  have hkeys : (s.closedRound g).staged.map Staged.key = (s.staged.map Staged.key).map (currentKey g) := by
    show (s.staged.map (makeCurrent g)).map Staged.key = _
    simp only [List.map_map, Function.comp_def, makeCurrent_key]
  have hnext : ∀ k ∈ s.staged.map Staged.key, k.1 = g → k.2.2 = true := by
    intro k hk hg
    obtain ⟨e, he, rfl⟩ := List.mem_map.1 hk
    exact roundEntries_nil hnone he hg
  rw [hkeys]
  refine ⟨by rw [List.length_map]; exact hlen, fun k hk => ?_, hnodup.map_on fun j hj k hk hjk => ?_⟩
  · obtain ⟨j, hj, rfl⟩ := List.mem_map.1 hk
    unfold currentKey; split <;> exact hplace j hj
  · obtain ⟨gj, aj, nj⟩ := j
    obtain ⟨gk, ak, nk⟩ := k
    have hj := hnext _ hj
    have hk := hnext _ hk
    simp only [currentKey] at hjk hj hk
    split_ifs at hjk with h1 h2 h2
    · simp only [Prod.mk.injEq] at hjk ⊢
      exact ⟨hjk.1, hjk.2.1, (hj h1).trans (hk h2).symm⟩
    · simp only [Prod.mk.injEq] at hjk; exact absurd (hjk.1 ▸ h1) h2
    · simp only [Prod.mk.injEq] at hjk; exact absurd (hjk.1 ▸ h2) h1
    · exact hjk

theorem serveRound_stagingOk (g : GroupId) {s : State} (hs : s.StagingOk) : (serveRound g s).1.StagingOk := by
  rcases serveRound_cases g s with ⟨hnone, hmoves⟩ | ⟨e, es, -, h⟩
  · exact hmoves.stagingOk (closedRound_stagingOk hnone hs)
  · rw [h]; exact hs

/-! ## The rounds -/

/-- The first round ends with nothing of the engine at the port (R87). -/
theorem closedRound_roundsOk {g : GroupId} {later : List GroupId} {s : State} (hrounds : s.rounds = g :: later)
    (hcommit : s.port.commit = none) (hflight : ∀ ws, s.port.flight ≠ some (.commit ws)) (hs : s.RoundsOk) :
    (s.closedRound g).RoundsOk := by
  obtain ⟨hnodup, hcommitting, -, -⟩ := hs
  rw [hrounds] at hnodup hcommitting
  obtain ⟨hnotin, hlater⟩ := List.nodup_cons.1 hnodup
  have htail : (s.closedRound g).rounds = later := congrArg List.tail hrounds
  unfold State.RoundsOk
  rw [htail]
  refine ⟨hlater, fun j => ?_, fun ws hws => ?_, fun ws _ hc => ?_⟩
  · rw [State.closedRound, State.modGroup_get]
    split
    · rename_i hj
      subst hj
      exact ⟨fun hm => absurd hm hnotin, fun hst => absurd hst (reopened_state _)⟩
    · rename_i hj
      rw [← hcommitting j, List.mem_cons]
      exact ⟨.inr, fun h => h.resolve_left (Ne.symm hj)⟩
  · rcases hws with hc | hf
    · exact absurd (hcommit.symm.trans hc) nofun
    · exact absurd hf (hflight ws)
  · exact absurd (hcommit.symm.trans hc) nofun

/-- Entries of group g lie whole in its valid range. -/
def State.PlacedIn (s : State) (g : GroupId) : Prop :=
  ∀ e ∈ s.staged, e.group = g → s.cfg.groups[g].valid = true ∧ (commitWord e).WholeIn s.cfg.groups[g]

/-- A word address in a range of whole pages has its word in it. -/
theorem placedIn_of (g : GroupId) {s : State} (hcfg : s.cfg.InRange) (hst : s.StagingOk) (hport : s.PortPlaced) :
    s.PlacedIn g := by
  rintro e he rfl
  obtain ⟨-, -, -, hgroups, -⟩ := hcfg
  obtain ⟨-, hplace, -⟩ := hst
  obtain ⟨-, -, -, -, haligned, -⟩ := hport
  obtain ⟨hvalid, hrange, -⟩ := hplace e he
  have hbase := (hgroups e.group).1
  have haddr := haligned e he
  obtain ⟨hlo, hhi⟩ := of_decide_eq_true hrange
  unfold groupBytes at hhi
  refine ⟨hvalid, haddr, hlo, ?_⟩
  show e.addr + 4 ≤ _
  omega

/-- The engine serves the first round, with nothing of its own at the port before (R33, R85). -/
theorem serveRound_roundsOk {g : GroupId} {later : List GroupId} {s : State} (hrounds : s.rounds = g :: later)
    (hcommit : s.port.commit = none) (hflight : ∀ ws, s.port.flight ≠ some (.commit ws)) (hplaced : s.PlacedIn g)
    (hs : s.RoundsOk) : (serveRound g s).1.RoundsOk := by
  rcases serveRound_cases g s with ⟨-, hmoves⟩ | ⟨e, es, hes, h⟩
  · exact hmoves.roundsOk (closedRound_roundsOk hrounds hcommit hflight hs)
  · rw [h]
    obtain ⟨hnodup, hcommitting, -, -⟩ := hs
    refine ⟨hnodup, hcommitting, fun ws hws => ⟨rfl, g, later, hrounds, ?_⟩, fun ws vs _ hf => hflight vs hf⟩
    have hhead := hes e List.mem_cons_self
    refine ⟨(hplaced e hhead.1 hhead.2).1, ?_⟩
    rcases hws with hc | hf
    · cases hc
      intro w hw
      obtain ⟨x, hx, rfl⟩ := List.mem_map.1 hw
      exact (hplaced x (hes x hx).1 (hes x hx).2).2
    · exact absurd hf (hflight ws)

/-! ## The entry counts -/

/-- The entries gathered during the round are those of the group's next one (R87). -/
theorem closedRound_countsAgree {g : GroupId} {s : State} (hg : s.groups[g].state = .committing)
    (hnone : roundEntries g s = []) (hs : s.CountsAgree) : (s.closedRound g).CountsAgree := by
  have hkeys : ∀ e ∈ s.staged, ∀ j b, inRound j b (makeCurrent g e) =
      if g = j then !b && inRound g true e else inRound j b e := by
    intro e he j b
    unfold makeCurrent inRound
    by_cases hj : e.group = g
    · have := roundEntries_nil hnone he hj
      rw [if_pos hj]
      split
      · rename_i hgj; subst hgj; cases b <;> simp [hj, this]
      · rename_i hgj; simp [hj, hgj]
    · rw [if_neg hj]
      split
      · rename_i hgj; subst hgj; simp [hj]
      · rfl
  have hcount : ∀ j b, List.countP (inRound j b) (s.staged.map (makeCurrent g)) =
      s.staged.countP fun e => if g = j then !b && inRound g true e else inRound j b e := by
    intro j b
    rw [List.countP_map]
    exact List.countP_congr fun e he => by rw [Function.comp_apply, hkeys e he]
  refine countsAgree_modGroup g reopened (s := s) rfl (fun j b hj => ?_) (fun h => ?_) hs
  · refine (hcount j b).trans ?_
    simp only [if_neg hj]; rfl
  · have hcur : List.countP (inRound g false) (s.staged.map (makeCurrent g)) = s.entriesOf g true := by
      rw [hcount]; simp only [if_true, Bool.not_false, Bool.true_and]; rfl
    have hnext : List.countP (inRound g true) (s.staged.map (makeCurrent g)) = 0 := by
      rw [hcount]; simp
    show (reopened s.groups[g]).Counted (List.countP _ (s.staged.map (makeCurrent g)))
      (List.countP _ (s.staged.map (makeCurrent g)))
    rw [hcur, hnext]
    simp only [Group.Counted, hg, if_true, reopened_state, if_false, reopened_entryCount] at h ⊢
    exact ⟨h.1, trivial⟩

theorem serveRound_countsAgree {g : GroupId} {s : State} (hg : s.groups[g].state = .committing) (hs : s.CountsAgree) :
    (serveRound g s).1.CountsAgree := by
  rcases serveRound_cases g s with ⟨hnone, hmoves⟩ | ⟨e, es, -, h⟩
  · exact hmoves.countsAgree (closedRound_countsAgree hg hnone hs)
  · rw [h]; exact hs

/-- A commit transaction takes entries of its round in flight alone (R85). -/
theorem dropCommitted_countsAgree {g : GroupId} {s : State} (ws : List WriteWord) (hg : s.groups[g].state = .committing)
    (hs : s.CountsAgree) : (dropCommitted g ws s).CountsAgree := by
  have hle : ∀ j b, (dropCommitted g ws s).entriesOf j b ≤ s.entriesOf j b := fun j b =>
    List.filter_sublist.countP_le
  have hsame : ∀ j b, (g ≠ j ∨ b = true) → (dropCommitted g ws s).entriesOf j b = s.entriesOf j b := by
    intro j b h
    refine List.countP_filter.trans (List.countP_congr fun e _ => ?_)
    simp only [Bool.and_eq_true, inRound_iff, and_iff_left_iff_imp]
    rintro ⟨rfl, rfl⟩
    rcases h with h | h
    · simp [Ne.symm h]
    · simp [h]
  rw [countsAgree_iff] at hs ⊢
  intro j
  have hj := hs j
  have hlej := hle j false
  change s.groups[j].Counted _ _
  rw [hsame j true (.inr rfl)]
  by_cases h : g = j
  · subst h
    simp only [Group.Counted, hg, if_true] at hj ⊢
    omega
  · rw [hsame j false (.inl h)]; exact hj

end Sys2Proof.Machine
end

section
/-! PROOF. Every command but COLD_RESET and the commit engine's two as a chain of staging moves; and the statement about the
staging unit. -/

namespace Sys2Proof.Machine

open Sys2Proof

/-! ## Commands that are taken only where a condition holds -/

theorem staging_if {p : Prop} [Decidable p] {s t : State} (h : p → StagingMoves s t) : StagingMoves s (if p then t else s) := by
  split
  · exact h ‹p›
  · exact .refl s

theorem staging_event_if {p : Prop} [Decidable p] {act : State → Eff} {s : State} (h : StagingMoves s (act s).1) :
    StagingMoves s (if p then event act s else s) := staging_if fun _ => staging_event h

theorem lineEdge_staging (r : RefId) (rising : Bool) (s : State) : StagingMoves s (lineEdge r rising s) := by
  unfold lineEdge; exact modRef_staging s r _

/-- A frame whose burst is not of 1 to 16 words counts as failed (R2). -/
theorem frameArrival_staging (n : SlotId) {k : Nat} {r : Request} (hr : 1 ≤ k ∧ k ≤ 16 → r.Sized) (s : State) :
    StagingMoves s (if burstOk k then s.modLink n (requestArrives r) else failedFrame n s) := by
  split
  · rename_i hk
    exact requestArrives_staging n (hr (of_decide_eq_true hk)) s
  · exact failedFrame_staging n s

theorem takeHeadRead_staging (n : SlotId) (s : State) : StagingMoves s (takeHeadRead n s) := by
  unfold takeHeadRead; split
  · exact staging_event (takeRead_staging n _ _ _ s)
  · exact .refl s

theorem takeHeadWrite_staging (n : SlotId) (s : State) : StagingMoves s (takeHeadWrite n s) := by
  unfold takeHeadWrite; split
  · exact (popFrame_staging n s).trans (staging_event (takeWrite_staging n _ _ _ _ _))
  · exact .refl s

theorem sendWrite_staging (o : Origin) (d : Word) (be : Mask) (s : State) : StagingMoves s (sendWrite o d be s) := by
  have hsized : (Request.write o.addr be be [d]).Sized := ⟨le_refl 1, (by decide : 1 ≤ 16)⟩
  exact (requestArrives_staging o.slot hsized s).trans (takeHeadWrite_staging o.slot _)

theorem armWrite_staging (o : Origin) (g : GroupId) (d : Word) (be : Mask) (s : State) :
    StagingMoves s (armWrite o g d be s) := staging_if fun _ => sendWrite_staging o d be s

theorem regionWrite_staging (o : Origin) (idx : RegionIdx) (d : Word) (be : Mask) (s : State) :
    StagingMoves s (regionWrite o idx d be s) := staging_if fun _ => sendWrite_staging o d be s

theorem wordWrite_staging (o : Origin) (idx : RegionIdx) (d : Word) (s : State) : StagingMoves s (wordWrite o idx d s) :=
  regionWrite_staging o idx d _ s

theorem fieldWrite_staging (o : Origin) (idx : RegionIdx) (lo len v : Nat) (s : State) :
    StagingMoves s (fieldWrite o idx lo len v s) := wordWrite_staging o idx _ s

theorem slotFieldWrite_staging (o : Origin) (n : SlotId) (lo len v : Nat) (be : Mask) (s : State) :
    StagingMoves s (slotFieldWrite o n lo len v be s) := regionWrite_staging o _ _ be s

/-! ## Every command -/

/-- What a command may do: COLD_RESET; a chain of moves; the first round's next transaction offered, or its end, where the
engine serves none (R84, R87); or the same after a commit transaction of the first round has completed (R85). -/
inductive StagingStep (s : State) : State → Prop where
  | cold (x : Straps) : StagingStep s (State.cold x s.mem s.pending)
  | moves {t : State} : StagingMoves s t → StagingStep s t
  | starts {t : State} (g : GroupId) (later : List GroupId) : s.serving = false → s.rounds = g :: later →
      StagingMoves (serveRound g s).1 t → StagingStep s t
  | goesOn {t : State} (ws : List WriteWord) (g : GroupId) (later : List GroupId) :
      s.port.flight = some (.commit ws) → s.rounds = g :: later →
      StagingMoves (serveRound g (dropCommitted g ws (s.committed ws))).1 t → StagingStep s t

/-- A command that answers a state it moves to. -/
theorem step_of_next {s u t : State} (hu : StagingMoves s u) (h : (.next u : Out) = .next t) : StagingStep s t := by
  cases h; exact .moves hu

theorem commitRoundStart_step {s t : State} (h : execCommitRoundStart s = .next t) : StagingStep s t := by
  unfold execCommitRoundStart at h
  split at h
  · rename_i g later hserving hrounds
    cases h
    exact .starts g later hserving hrounds (event_staging _ _)
  · exact step_of_next (.refl s) h

theorem commitTransactionComplete_step {s t : State} (h : execCommitTransactionComplete s = .next t) : StagingStep s t := by
  unfold execCommitTransactionComplete at h
  split at h
  · rename_i ws hflight
    cases h
    have hevent := event_staging (completeCommit ws) s
    unfold completeCommit at hevent; dsimp only at hevent; split at hevent
    · rename_i g later hrounds
      exact .goesOn ws g later hflight hrounds hevent
    · exact .moves ((committed_staging ws s).trans hevent)
  · exact step_of_next (.refl s) h

theorem exec_staging {c : Instr} {s t : State} (h : exec c s = .next t) : StagingStep s t := by
  cases c with
  | coldReset x => cases h; exact .cold x
  | commitRoundStart => exact commitRoundStart_step h
  | commitTransactionComplete => exact commitTransactionComplete_step h
  -- writes of one word of the control region or of an arm word
  | warmReset | secondsLoad | openQueue | closeQueue | powerOn | removeSlot | clearLockout | ackPoint | ackAll | relayOn
  | relayOff | relayFollow | relayConfigWrite | scanNow | channelConfigWrite | logReadIndexWrite | windowRecordWrite =>
    exact step_of_next (wordWrite_staging _ _ _ s) h
  | referenceEnableWrite | referencePriorityWrite | pointEnableWrite | pointLatchedWrite | pointSeverityWrite
  | pointRelayMarksWrite | pointShedTriggerWrite | senseModeWrite =>
    exact step_of_next (fieldWrite_staging _ _ _ _ _ s) h
  | slotPolicyWrite | slotDrawWrite | shedPriorityWrite | controlRightWrite =>
    exact step_of_next (slotFieldWrite_staging _ _ _ _ _ _ s) h
  | controlRegionWrite o idx data enables => exact step_of_next (regionWrite_staging o idx data enables s) h
  | queueDescriptorWrite o q field =>
    refine step_of_next ?_ h
    cases field with
    | base => exact wordWrite_staging o _ _ s
    | cellSize | cellCount | producer | consumer => exact fieldWrite_staging o _ _ _ _ s
    | high | low => exact regionWrite_staging o _ _ _ s
  | groupConfigWrite o g field =>
    refine step_of_next ?_ h
    cases field with
    | base => exact wordWrite_staging o _ _ s
    | valid | size => exact fieldWrite_staging o _ _ _ _ s
  | budgetWrite o field =>
    refine step_of_next ?_ h
    cases field <;> exact fieldWrite_staging o _ _ _ _ s
  | logConfigWrite o field =>
    refine step_of_next ?_ h
    cases field <;> exact wordWrite_staging o _ _ s
  | armGroup | disarmGroup | discardGroup => exact step_of_next (armWrite_staging _ _ _ _ s) h
  | armWordIgnored o g data enables => exact step_of_next (staging_if fun _ => armWrite_staging o g data enables s) h
  -- resets, start-up and time
  | coldStartUpWriteComplete =>
    revert h; show execColdStartUpWriteComplete s = _ → _
    unfold execColdStartUpWriteComplete; split
    · exact step_of_next (staging_event (completeStartUp_staging _ s))
    · exact step_of_next (.refl s)
  | warmResetCarriedOut => exact step_of_next (warmIfDue_staging s) h
  | localOscillatorPeriod order => exact step_of_next (staging_event (takePeriod_staging order s)) h
  | continuousFrameTick order => exact step_of_next (staging_event_if (takePeriod_staging order s)) h
  | pulseEvent r order => exact step_of_next (staging_event (takePulse_staging r order s)) h
  | missTimerExpiry r => exact step_of_next (staging_event_if (takeMiss_staging r s)) h
  | holdoverTimerExpiry => exact step_of_next (staging_event_if (takeHoldSecond_staging s)) h
  | referenceLineEdge r rising => exact step_of_next (lineEdge_staging r rising s) h
  -- links
  | readFrameArrival n tag addr count =>
    exact step_of_next (frameArrival_staging n (r := .read tag addr count) id s) h
  | writeFrameArrival n addr first last data =>
    exact step_of_next (frameArrival_staging n (r := .write addr first last data) id s) h
  | readyToFenceArrival n => exact step_of_next (requestArrives_staging n (r := .readyToFence) trivial s) h
  | idleArrival n => exact step_of_next (modLink_same s n (idleArrives_buffer _)) h
  | echoReplyArrival n seq k => exact step_of_next (staging_event (replyArrives_staging n seq _ s)) h
  | frameCheckFailed n => exact step_of_next (failedFrame_staging n s) h
  | echoReplyTimerExpiry n => exact step_of_next (staging_event_if (modLink_same s n (missEcho_buffer _))) h
  | errorWindowEnd n => exact step_of_next (staging_event_if (modLink_same s n (endWindow_buffer _ _))) h
  | sendGo n => exact step_of_next (staging_if fun _ => modLink_same s n (beginGo_buffer _)) h
  | sendData n => exact step_of_next (staging_if fun _ => modLink_same s n (beginData_buffer _)) h
  | echoCadenceDue n | sendHold n | sendEcho n | sendIdle n =>
    exact step_of_next (staging_if fun _ => modLink_same s n rfl) h
  | sendNotice n => exact step_of_next (staging_if fun _ => beginNotice_staging n s) h
  | transmitFrameEnd n => exact step_of_next (modLink_same s n rfl) h
  | resyncAdd n => exact step_of_next (modList_staging s n _) h
  -- windows and the memory port
  | windowTakeRead n => exact step_of_next (takeHeadRead_staging n s) h
  | windowTakeWrite n => exact step_of_next (takeHeadWrite_staging n s) h
  | readyToFenceTaken n => exact step_of_next (staging_event_if (handFence_staging n s)) h
  | timeWord0Read n | statusMarkRead n => exact step_of_next (staging_if fun _ => takeHeadRead_staging n s) h
  | heldReadRelease n => exact step_of_next (setWaiting_staging s n _) h
  | memoryGrant => exact step_of_next (takeGrant_staging s) h
  | slotReadComplete =>
    revert h; show execSlotReadComplete s = _ → _
    unfold execSlotReadComplete; split
    · exact step_of_next (completeRead_staging _ _ _ s)
    · exact step_of_next (.refl s)
  | slotWriteComplete =>
    revert h; show execSlotWriteComplete s = _ → _
    unfold execSlotWriteComplete; split
    · exact step_of_next (completeWrite_staging _ s)
    · exact step_of_next (.refl s)
  | logWriteComplete =>
    revert h; show execLogWriteComplete s = _ → _
    unfold execLogWriteComplete; split
    · exact step_of_next (completeLog_staging _ s)
    · exact step_of_next (.refl s)
  -- queues
  | queueZeroingOffer => exact step_of_next (offerZeroing_staging s) h
  | zeroingComplete =>
    revert h; show execZeroingComplete s = _ → _
    unfold execZeroingComplete; split
    · exact step_of_next (staging_event (completeZeroing_staging _ _ s))
    · exact step_of_next (.refl s)
  -- slots
  | slotLineSample n lines | presentDebounced n lines | latchDebounced n lines | pgoodSteady n lines | pgoodLost n lines =>
    exact step_of_next (staging_event_if (sampleSlot_staging n lines s)) h
  | rampTimerExpiry n | linkTimerExpiry n | realignLimitExpiry n =>
    exact step_of_next (staging_event_if (takeFaulted_staging n _ s)) h
  | drainTimerExpiry n => exact step_of_next (staging_event_if (takeFence_staging n s)) h
  | powerDownTimerExpiry n => exact step_of_next (staging_event_if (takePowerDown_staging n s)) h
  | backoffTimerExpiry n => exact step_of_next (staging_event_if (takeBackoff_staging n s)) h
  | admitHead | readmitHead => exact step_of_next (staging_event_if (.refl s)) h
  -- alarm points and the environment
  | raiseDebounceExpiry p =>
    exact step_of_next (staging_event_if (tellShed_staging (staging_of_reportPart (raisePoint_reportPart p _ s)))) h
  | clearDebounceExpiry p =>
    exact step_of_next (staging_event_if (tellShed_staging (staging_of_reportPart (clearPoint_reportPart p s)))) h
  | contactSample => exact step_of_next (staging_event_if (.same rfl)) h
  | scanIntervalExpiry => exact step_of_next (staging_if fun _ => takeInterval_staging s) h
  | conversionComplete vin vref =>
    revert h; show execConversionComplete vin vref s = _ → _
    unfold execConversionComplete; split
    · exact step_of_next (staging_event_if (takeResult_staging _ _ s))
    · exact step_of_next (.refl s)

/-! ## COLD_RESET -/

section Cold

variable (x : Straps) (m : Memory) (p : List Instr)

theorem cold_burstsOk : (State.cold x m p).BurstsOk := by
  intro n r hr
  rw [show (State.cold x m p).links[n] = LinkPort.cold from Vector.getElem_replicate _] at hr
  cases hr

theorem cold_stagingOk : (State.cold x m p).StagingOk := ⟨Nat.zero_le _, nofun, List.nodup_nil⟩

theorem cold_group (g : GroupId) : (State.cold x m p).groups[g] = Group.cold := Vector.getElem_replicate _

theorem cold_roundsOk : (State.cold x m p).RoundsOk := by
  refine ⟨List.nodup_nil, fun g => ?_, fun ws h => ?_, nofun⟩
  · rw [cold_group]; exact ⟨nofun, nofun⟩
  · rcases h with h | h <;> cases h

theorem cold_countsAgree : (State.cold x m p).CountsAgree := by
  rw [countsAgree_iff]
  intro g
  rw [cold_group]
  exact ⟨rfl, rfl⟩

end Cold

/-! ## The invariants under every command -/

theorem StagingStep.burstsOk {s t : State} (h : StagingStep s t) (hs : s.BurstsOk) : t.BurstsOk := by
  cases h with
  | cold x => exact cold_burstsOk x _ _
  | moves h => exact h.burstsOk hs
  | starts g later _ _ h => exact h.burstsOk (serveRound_burstsOk g hs)
  | goesOn ws g later _ _ h =>
    exact h.burstsOk (serveRound_burstsOk (s := dropCommitted g ws (s.committed ws)) g hs)

theorem StagingStep.stagingOk {s t : State} (h : StagingStep s t) (hs : s.StagingOk) : t.StagingOk := by
  cases h with
  | cold x => exact cold_stagingOk x _ _
  | moves h => exact h.stagingOk hs
  | starts g later _ _ h => exact h.stagingOk (serveRound_stagingOk g hs)
  | goesOn ws g later _ _ h =>
    exact h.stagingOk (serveRound_stagingOk g (stagingOk_filter _ ((committed_staging ws s).stagingOk hs)))

/-- The engine has nothing at the port when it starts a round, and nothing once its transaction has completed (R33, R85). -/
theorem StagingStep.roundsOk {s t : State} (h : StagingStep s t) (hcfg : s.cfg.InRange) (hst : s.StagingOk)
    (hport : s.PortPlaced) (hs : s.RoundsOk) : t.RoundsOk := by
  have hplaced := fun g => placedIn_of g hcfg hst hport
  cases h with
  | cold x => exact cold_roundsOk x _ _
  | moves h => exact h.roundsOk hs
  | starts g later hserving hrounds h =>
    obtain ⟨-, -, hengine, -⟩ := id hs
    have hidle : ∀ ws, ¬ (s.port.commit = some ws ∨ s.port.flight = some (.commit ws)) := fun ws hws =>
      absurd (hserving.symm.trans (hengine ws hws).1) nofun
    refine h.roundsOk (serveRound_roundsOk hrounds ?_ (fun ws hf => hidle ws (.inr hf)) (hplaced g) hs)
    exact Option.eq_none_iff_forall_ne_some.2 fun ws hc => hidle ws (.inl hc)
  | goesOn ws g later hflight hrounds h =>
    obtain ⟨-, -, -, hone⟩ := id hs
    have hdropped : (dropCommitted g ws (s.committed ws)).RoundsOk :=
      roundsOk_of_groups (s := s.committed ws) rfl (fun _ => Iff.rfl) ((committed_staging ws s).roundsOk hs)
    refine h.roundsOk (serveRound_roundsOk hrounds ?_ nofun (fun e he => ?_) hdropped)
    · exact Option.eq_none_iff_forall_ne_some.2 fun vs hc => hone vs ws hc hflight
    · exact hplaced g e (List.mem_filter.1 he).1

theorem StagingStep.countsAgree {s t : State} (h : StagingStep s t) (hrounds : s.RoundsOk) (hs : s.CountsAgree) :
    t.CountsAgree := by
  obtain ⟨-, hcommitting, -, -⟩ := hrounds
  cases h with
  | cold x => exact cold_countsAgree x _ _
  | moves h => exact h.countsAgree hs
  | starts g later _ hhead h =>
    exact h.countsAgree (serveRound_countsAgree ((hcommitting g).1 (hhead ▸ List.mem_cons_self)) hs)
  | goesOn ws g later _ hhead h =>
    have hg : s.groups[g].state = .committing := (hcommitting g).1 (hhead ▸ List.mem_cons_self)
    have hdropped := dropCommitted_countsAgree (s := s.committed ws) ws hg ((committed_staging ws s).countsAgree hs)
    exact h.countsAgree (serveRound_countsAgree (s := dropCommitted g ws (s.committed ws)) hg hdropped)

/-- Settles O12: COLD_RESET leaves the staging unit and the input buffers empty; every other command is a chain of the staging
unit's own moves, each of which keeps the bursts, the list, the rounds and the counts, or the commit engine's act on the first round
and then such a chain. -/
theorem stagingStaysInBounds : Obligations.StagingStaysInBounds := by
  refine ⟨⟨cold_burstsOk _ _ _, fun s t hs h => ?_⟩, ⟨cold_stagingOk _ _ _, fun s t _ _ hs h => ?_⟩,
    ⟨cold_roundsOk _ _ _, fun s t hcfg hst hport hs h => ?_⟩, cold_countsAgree _ _ _, fun s t hr hs h => ?_⟩
  · rcases step_cases h with rfl | ⟨c, rest, hc⟩
    · exact hs
    · exact (exec_staging hc).burstsOk hs
  · rcases step_cases h with rfl | ⟨c, rest, hc⟩
    · exact hs
    · exact (exec_staging hc).stagingOk hs
  · rcases step_cases h with rfl | ⟨c, rest, hc⟩
    · exact hs
    · exact (exec_staging hc).roundsOk hcfg hst hport hs
  · rcases step_cases h with rfl | ⟨c, rest, hc⟩
    · exact hs
    · exact (exec_staging hc).countsAgree hr hs

end Sys2Proof.Machine
end

section
/-! SUPPORT. The two invariants of the timebase in its own terms: the ranges, what R99's choice looks at, and the loop state
against the active reference. -/

namespace Sys2Proof.Machine

open Sys2Proof

/-! ## The terms of the invariants -/

/-- The ranges of R95 and R115. -/
def Timebase.InRange (t : Timebase) : Prop :=
  (-2000000 ≤ t.freq ∧ t.freq ≤ 2000000) ∧ (-2000000 ≤ t.applied ∧ t.applied ≤ 2000000) ∧
    t.ns < 1000000000 ∧ t.residue < 100000000000 ∧ t.sec < 2 ^ 48 ∧ t.good ≤ 15

/-- A disabled reference is LOST (R98). -/
def State.DisabledLost (s : State) : Prop := ∀ r : RefId, s.cfg.refs[r].enable = false → s.refs[r].qualified = false

/-- The invariant with what it says of LOCKED and HOLDOVER told by the active reference alone: as that is R99's choice and a
disabled reference is LOST, an active reference is QUALIFIED, and with none active none is qualified (`timeFits_iff`). -/
structure State.TimeFits (s : State) : Prop where
  inRange : s.time.InRange
  chosen : s.time.active = chosenRef s
  disabled : s.DisabledLost
  locked : s.time.loop = .locked → s.time.active ≠ none
  holdover : s.time.loop = .holdover → s.time.active = none

/-- Two states alike in what R99's choice looks at. -/
structure SameRefs (s t : State) : Prop where
  qualified : ∀ r : RefId, t.refs[r].qualified = s.refs[r].qualified
  enable : ∀ r : RefId, t.cfg.refs[r].enable = s.cfg.refs[r].enable
  priority : ∀ r : RefId, t.cfg.refs[r].priority = s.cfg.refs[r].priority

/-! ## R99's choice -/

theorem usable_of_chosenRef {s : State} {r : RefId} (h : chosenRef s = some r) : usable s r = true := by
  unfold chosenRef at h
  split_ifs at h with hboth _ hzero hone
  · cases h; exact (Bool.and_eq_true_iff.1 hboth).2
  · cases h; exact (Bool.and_eq_true_iff.1 hboth).1
  · cases h; exact hzero
  · cases h; exact hone

theorem chosenRef_eq_none {s : State} : chosenRef s = none ↔ ∀ r : RefId, usable s r = false := by
  rw [Fin.forall_fin_two]
  unfold chosenRef
  cases usable s 0 <;> cases usable s 1 <;> simp

theorem chosenRef_of_lost {s : State} (h : ∀ r : RefId, s.refs[r].qualified = false) : chosenRef s = none :=
  chosenRef_eq_none.2 fun r => by simp only [usable, h r, Bool.and_false]

theorem usable_iff (s : State) (r : RefId) :
    usable s r = true ↔ s.cfg.refs[r].enable = true ∧ s.refs[r].qualified = true := Bool.and_eq_true_iff

/-- With no active reference none is qualified (R98, R99). -/
theorem lost_of_chosenRef {s : State} (hd : s.DisabledLost) (h : chosenRef s = none) (r : RefId) :
    s.refs[r].qualified = false := by
  cases he : s.cfg.refs[r].enable with
  | false => exact hd r he
  | true => simpa only [usable, he, Bool.true_and] using chosenRef_eq_none.1 h r

theorem timeFits_iff {s : State} : s.TimeFits ↔ s.TimeOk := by
  constructor
  · rintro ⟨⟨hfreq, happlied, hns, hres, hsec, hgood⟩, hchosen, hdisabled, hlocked, hholdover⟩
    refine ⟨hfreq, happlied, hns, hres, hsec, hgood, hchosen, hdisabled, fun h => ?_, fun h => ?_⟩
    · obtain ⟨r, hr⟩ := Option.ne_none_iff_exists'.1 (hlocked h)
      exact ⟨r, hr, ((usable_iff s r).1 (usable_of_chosenRef (hchosen.symm.trans hr))).2⟩
    · exact lost_of_chosenRef hdisabled (hchosen.symm.trans (hholdover h))
  · rintro ⟨hfreq, happlied, hns, hres, hsec, hgood, hchosen, hdisabled, hlocked, hholdover⟩
    refine ⟨⟨hfreq, happlied, hns, hres, hsec, hgood⟩, hchosen, hdisabled, fun h => ?_, fun h => ?_⟩
    · obtain ⟨r, hr, _⟩ := hlocked h
      exact hr ▸ Option.some_ne_none r
    · exact hchosen.trans (chosenRef_of_lost (hholdover h))

theorem State.TimeFits.lost_of_none {s : State} (h : s.TimeFits) (ha : s.time.active = none) (r : RefId) :
    s.refs[r].qualified = false := lost_of_chosenRef h.disabled (h.chosen.symm.trans ha) r

/-! ## What R99's choice does not look at -/

theorem SameRefs.trans {s t u : State} (h : SameRefs s t) (k : SameRefs t u) : SameRefs s u :=
  ⟨fun r => (k.qualified r).trans (h.qualified r), fun r => (k.enable r).trans (h.enable r),
    fun r => (k.priority r).trans (h.priority r)⟩

theorem SameRefs.chosenRef {s t : State} (h : SameRefs s t) : chosenRef t = chosenRef s := by
  have husable : ∀ r : RefId, usable t r = usable s r := fun r => by simp only [usable, h.enable r, h.qualified r]
  have hzero : t.cfg.refs[0].priority = s.cfg.refs[0].priority := h.priority 0
  have hone : t.cfg.refs[1].priority = s.cfg.refs[1].priority := h.priority 1
  simp only [Machine.chosenRef, husable, hzero, hone]

theorem SameRefs.disabledLost {s t : State} (h : SameRefs s t) (hs : s.DisabledLost) : t.DisabledLost := fun r he =>
  (h.qualified r).trans (hs r ((h.enable r).symm.trans he))

theorem time_sameRefs (s : State) (x : Timebase) : SameRefs s { s with time := x } :=
  ⟨fun _ => rfl, fun _ => rfl, fun _ => rfl⟩

theorem modRef_sameRefs (s : State) (r : RefId) {f : Reference → Reference}
    (h : (f s.refs[r]).qualified = s.refs[r].qualified) : SameRefs s (s.modRef r f) := by
  refine ⟨fun j => ?_, fun _ => rfl, fun _ => rfl⟩
  rw [State.modRef_get]; split
  · rename_i hj; subst hj; exact h
  · rfl

/-- A change of the timebase that leaves the active reference alone and comes neither to LOCKED nor to HOLDOVER. -/
theorem State.TimeFits.of_time {s t : State} (hs : s.TimeFits) (hrefs : SameRefs s t) (hrange : t.time.InRange)
    (hactive : t.time.active = s.time.active) (hlocked : t.time.loop = .locked → s.time.loop = .locked)
    (hholdover : t.time.loop = .holdover → s.time.loop = .holdover) : t.TimeFits where
  inRange := hrange
  chosen := hactive.trans (hs.chosen.trans hrefs.chosenRef.symm)
  disabled := hrefs.disabledLost hs.disabled
  locked h := hactive ▸ hs.locked (hlocked h)
  holdover h := hactive.trans (hs.holdover (hholdover h))

/-! ## The part of the state the invariants read -/

/-- The fields of the state that the two invariants read. -/
def State.timePart (s : State) : Timebase × (RefId → Bool) × (RefId → Bool × Nat) × Nat :=
  ({ s.time with divider := 0, prop := 0, holdCount := 0, holdTimer := none, lastError := 0, load := none },
    fun r => s.refs[r].qualified, fun r => (s.cfg.refs[r].enable, s.cfg.refs[r].priority), s.frame)

theorem timePart_of_lightPart {s t : State} (h : t.lightPart = s.lightPart) : t.timePart = s.timePart := by
  have : t.lightPart.timePart = s.lightPart.timePart := by rw [h]
  exact this

theorem timePart_of_reportPart {s t : State} (h : t.reportPart = s.reportPart) : t.timePart = s.timePart :=
  timePart_of_lightPart (lightPart_of_reportPart h)

theorem sameRefs_of_timePart {s t : State} (h : t.timePart = s.timePart) : SameRefs s t := by
  obtain ⟨_, hqualified, hcfg, _⟩ : _ ∧ _ ∧ _ ∧ _ := by simpa only [State.timePart, Prod.mk.injEq] using h
  exact ⟨congrFun hqualified, fun r => congrArg Prod.fst (congrFun hcfg r), fun r => congrArg Prod.snd (congrFun hcfg r)⟩

theorem timeFits_of_timePart {s t : State} (h : t.timePart = s.timePart) (hs : s.TimeFits) : t.TimeFits := by
  have hloop : t.time.loop = s.time.loop := congrArg (fun p => p.1.loop) h
  have hrange : t.timePart.1.InRange := h ▸ hs.inRange
  exact hs.of_time (sameRefs_of_timePart h) hrange (congrArg (fun p => p.1.active) h) (fun k => hloop ▸ k)
    fun k => hloop ▸ k

theorem frameAgrees_of_timePart {s t : State} (h : t.timePart = s.timePart) (hs : s.FrameAgrees) : t.FrameAgrees := by
  have hsec : t.time.sec = s.time.sec := congrArg (fun p => p.1.sec) h
  have hns : t.time.ns = s.time.ns := congrArg (fun p => p.1.ns) h
  have hframe : t.frame = s.frame := congrArg (fun p => p.2.2.2) h
  unfold State.FrameAgrees
  rw [hframe, hsec, hns]
  exact hs

/-! ## Acts that keep both invariants -/

/-- An act that keeps both invariants of the timebase. -/
structure TimeKept (s t : State) : Prop where
  fits : s.TimeFits → t.TimeFits
  frame : s.FrameAgrees → t.FrameAgrees

theorem TimeKept.same {s t : State} (h : t.timePart = s.timePart) : TimeKept s t :=
  ⟨timeFits_of_timePart h, frameAgrees_of_timePart h⟩

theorem TimeKept.light {s t : State} (h : t.lightPart = s.lightPart) : TimeKept s t := .same (timePart_of_lightPart h)

theorem TimeKept.refl (s : State) : TimeKept s s := ⟨id, id⟩

theorem TimeKept.trans {s t u : State} (h : TimeKept s t) (k : TimeKept t u) : TimeKept s u :=
  ⟨fun hs => k.fits (h.fits hs), fun hs => k.frame (h.frame hs)⟩

/-- A change of a reference that leaves it QUALIFIED or LOST as it is. -/
theorem modRef_timeKept (s : State) (r : RefId) {f : Reference → Reference}
    (h : (f s.refs[r]).qualified = s.refs[r].qualified) : TimeKept s (s.modRef r f) :=
  ⟨fun hs => hs.of_time (modRef_sameRefs s r h) hs.inRange rfl id id, id⟩

theorem Eff.andThen_timeKept {s : State} {e : Eff} {f : State → Eff} (he : TimeKept s e.1) (hf : ∀ t, TimeKept t (f t).1) :
    TimeKept s (e.andThen f).1 := he.trans (hf e.1)

/-- An event keeps what its own act keeps: inputs and admissions leave the timebase alone. -/
theorem timeKept_event {act : State → Eff} {s : State} (h : TimeKept s (act s).1) : TimeKept s (event act s) :=
  h.trans (.light (event_lightPart act s))

theorem timeKept_if {p : Prop} [Decidable p] {s t : State} (h : TimeKept s t) : TimeKept s (if p then t else s) := by
  split
  · exact h
  · exact .refl s

end Sys2Proof.Machine
end

section
/-! SUPPORT. The timebase's own operations (chapter 6): adjustments, the loop, the choice of the active reference, pulses, misses,
holdover and the oscillator period. -/

namespace Sys2Proof.Machine

open Sys2Proof

/-! ## The ranges -/

theorem limit_bounds {m : Int} (hm : 0 ≤ m) (x : Int) : -m ≤ limit m x ∧ limit m x ≤ m := by unfold limit; omega

section Ranges

variable {t : Timebase}

theorem Timebase.InRange.withGood (h : t.InRange) {k : Nat} (hk : k ≤ 15) : ({ t with good := k } : Timebase).InRange := by
  obtain ⟨hfreq, happlied, hns, hres, hsec, _⟩ := h
  exact ⟨hfreq, happlied, hns, hres, hsec, hk⟩

theorem dropProp_inRange (h : t.InRange) : (dropProp t).InRange := by
  obtain ⟨hfreq, _, hrest⟩ := h
  exact ⟨hfreq, hfreq, hrest⟩

theorem steer_inRange (e : Int) (c : Cfg) (h : t.InRange) : (steer e c t).InRange := by
  obtain ⟨_, _, hrest⟩ := h
  exact ⟨limit_bounds (by decide) _, limit_bounds (by decide) _, hrest⟩

theorem settleLock_inRange (k : Nat) (h : t.InRange) : (settleLock k t).InRange := h

theorem hardLoop_inRange (h : t.InRange) : (hardLoop t).InRange := (dropProp_inRange h).withGood (Nat.zero_le _)

theorem loseReference_inRange (k : Nat) (h : t.InRange) : (loseReference k t).InRange := by
  have hdrop := (dropProp_inRange h).withGood (Nat.zero_le 15)
  unfold loseReference; dsimp only; split
  · split <;> exact hdrop
  · exact hdrop
  · exact h
  · exact h

/-- A period adds at most 8.00016 ns, so one carry into the seconds is enough (R95). -/
theorem advance_inRange (h : t.InRange) : (advance t).InRange := by
  obtain ⟨hfreq, happlied, hns, hres, hsec, hgood⟩ := h
  have hinc : increment t ≤ 800016000000 := by unfold increment; omega
  have hmod : (t.residue + increment t) % 100000000000 < 100000000000 := Nat.mod_lt _ (by decide)
  unfold advance; dsimp only; split
  · exact ⟨hfreq, happlied, by dsimp only; omega, hmod, Nat.mod_lt _ (by decide), hgood⟩
  · exact ⟨hfreq, happlied, by dsimp only; omega, hmod, hsec, hgood⟩

end Ranges

theorem move_bounds (x : Int) (p : Stamp) : (p.move x).sec < 2 ^ 48 ∧ (p.move x).ns < 1000000000 := by
  unfold Stamp.move; dsimp only; omega

theorem adjustTime_inRange (x : Int) {s : State} (h : s.time.InRange) : (adjustTime x s).time.InRange := by
  obtain ⟨hfreq, happlied, _, hres, _, hgood⟩ := h
  obtain ⟨hsec, hns⟩ := move_bounds x (now s)
  exact ⟨hfreq, happlied, hns, hres, hsec, hgood⟩

theorem adjustTime_sameRefs (x : Int) (s : State) : SameRefs s (adjustTime x s) := by
  refine ⟨fun r => ?_, fun _ => rfl, fun _ => rfl⟩
  show (Vector.ofFn fun i => moveRef x s.refs[i])[r].qualified = _
  rw [ofFn_get]; rfl

/-! ## The loop (R108, R111, R112) -/

/-- The loop has acted, or had nothing to do: the choice stands, and the loop is not in HOLDOVER. -/
structure LoopActed (s t : State) : Prop where
  inRange : s.time.InRange → t.time.InRange
  refs : SameRefs s t
  active : t.time.active = s.time.active
  loop : t.time.loop ≠ .holdover

/-- The loop's own settings change first: the phase error, and the end of HOLDOVER (R104, R114). -/
theorem LoopActed.of_time {s t : State} {x : Timebase} (h : LoopActed { s with time := x } t)
    (hr : s.time.InRange → x.InRange) (ha : x.active = s.time.active) : LoopActed s t :=
  ⟨fun hs => h.inRange (hr hs), ⟨h.refs.qualified, h.refs.enable, h.refs.priority⟩, h.active.trans ha, h.loop⟩

theorem settleLock_loop (k : Nat) (t : Timebase) : (settleLock k t).loop ≠ .holdover := by
  unfold settleLock; dsimp only; split <;> nofun

theorem acquireAct_acted (e : Int) (s : State) : LoopActed s (acquireAct e s) := by
  unfold acquireAct; dsimp only; split
  · exact ⟨fun h => settleLock_inRange _ ((dropProp_inRange (adjustTime_inRange _ h)).withGood (Nat.zero_le _)),
      (adjustTime_sameRefs _ s).trans (time_sameRefs _ _), rfl, settleLock_loop _ _⟩
  · have hgood : (if |e| ≤ (s.cfg.lockWindow : Int) then satAdd 15 (steer e s.cfg s.time).good 1 else 0) ≤ 15 := by
      unfold satAdd; split <;> omega
    exact ⟨fun h => settleLock_inRange _ ((steer_inRange e _ h).withGood hgood), time_sameRefs s _, rfl,
      settleLock_loop _ _⟩

theorem lockedAct_acted (e : Int) {s : State} (h : s.time.loop ≠ .holdover) : LoopActed s (lockedAct e s) := by
  unfold lockedAct; split_ifs
  · exact ⟨fun hr => hr.withGood (Nat.zero_le _), time_sameRefs s _, rfl, nofun⟩
  · exact ⟨steer_inRange e _, time_sameRefs s _, rfl, h⟩
  · exact ⟨fun hr => (steer_inRange e _ hr).withGood (Nat.zero_le _), time_sameRefs s _, rfl, nofun⟩

/-- A pulse acted on leaves HOLDOVER (R111, R114). -/
theorem loopAct_acted (r : RefId) (cap : Stamp) (s : State) : LoopActed s (loopAct r cap s) := by
  unfold loopAct; dsimp only; split
  · rename_i hloop
    exact (lockedAct_acted _ (by show s.time.loop ≠ _; rw [hloop]; nofun)).of_time id rfl
  · exact (acquireAct_acted _ _).of_time id rfl
  · exact (acquireAct_acted _ _).of_time id rfl
  · exact (acquireAct_acted _ _).of_time id rfl

theorem hardLoop_loop (t : Timebase) : (hardLoop t).loop ≠ .holdover := by
  unfold hardLoop; dsimp only; split
  · nofun
  · rename_i h; exact fun hl => h (.inr hl)

/-- A hard set leaves HOLDOVER (R108). -/
theorem hardSet_acted (load : Nat) (cap : Stamp) (delay : Nat) (s : State) : LoopActed s (hardSet load cap delay s) :=
  ⟨fun h => hardLoop_inRange (adjustTime_inRange _ h), (adjustTime_sameRefs _ s).trans (time_sameRefs _ _), rfl,
    hardLoop_loop _⟩

/-- A pulse's part in the loop, where the loop acts on the pulse that ends HOLDOVER (R103). -/
theorem pulseActs_acted (r : RefId) (cap : Stamp) (before : Option RefId) {s : State}
    (h : s.time.loop = .holdover → loopActs r before s.time.active = true) : LoopActed s (pulseActs r cap before s) := by
  unfold pulseActs; split
  · exact hardSet_acted _ cap _ s
  · split
    · exact loopAct_acted r cap s
    · rename_i hacts
      exact ⟨id, time_sameRefs s _, rfl, fun hl => hacts (h hl)⟩

/-! ## The active reference (R99, R113) -/

theorem chooseActive_sameRefs (s : State) : SameRefs s (chooseActive s).1 := by
  unfold chooseActive; dsimp only; split
  · split
    · exact time_sameRefs s s.time
    · dsimp only; exact (time_sameRefs s _).trans (modRef_sameRefs _ _ rfl)
  · exact time_sameRefs s _
  · exact time_sameRefs s _

theorem chooseActive_some {s : State} {b : RefId} (h : chosenRef s = some b) :
    (chooseActive s).1.time = { s.time with active := some b } := by
  unfold chooseActive; rw [h]; dsimp only
  cases ha : s.time.active with
  | none => rfl
  | some a =>
    dsimp only; split
    · rename_i hab; rw [← hab, ← ha]
    · rfl

theorem chooseActive_none {s : State} (h : chosenRef s = none) :
    (chooseActive s).1.time = if s.time.active = none then { s.time with active := none }
      else loseReference s.cfg.holdoverLimit { s.time with active := none } := by
  unfold chooseActive; rw [h]; dsimp only
  cases s.time.active <;> rfl

theorem loseReference_loop (k : Nat) (t : Timebase) : (loseReference k t).loop ≠ .locked := by
  unfold loseReference; dsimp only; split
  · split <;> nofun
  · nofun
  · rename_i h; rw [h]; nofun
  · rename_i h; rw [h]; nofun

theorem loseReference_clock (k : Nat) (t : Timebase) : (loseReference k t).active = t.active ∧
    (loseReference k t).sec = t.sec ∧ (loseReference k t).ns = t.ns := by
  unfold loseReference; dsimp only; split
  · split <;> exact ⟨rfl, rfl, rfl⟩
  · exact ⟨rfl, rfl, rfl⟩
  · exact ⟨rfl, rfl, rfl⟩
  · exact ⟨rfl, rfl, rfl⟩

/-- The choice made again after a change that made no reference usable where none was: the loop agrees with it (R113). -/
theorem chooseActive_fits {s : State} (hr : s.time.InRange) (hd : s.DisabledLost)
    (hlocked : s.time.loop = .locked → s.time.active ≠ none) (hholdover : s.time.loop = .holdover → s.time.active = none)
    (hnone : s.time.active = none → chosenRef s = none) : (chooseActive s).1.TimeFits := by
  have hrefs := chooseActive_sameRefs s
  cases hc : chosenRef s with
  | some b =>
    have htime := chooseActive_some hc
    refine ⟨htime ▸ hr, ?_, hrefs.disabledLost hd, fun _ => ?_, fun h => ?_⟩
    · rw [htime, hrefs.chosenRef, hc]
    · rw [htime]; exact Option.some_ne_none b
    · rw [htime] at h
      exact absurd (hc.symm.trans (hnone (hholdover h))) (Option.some_ne_none b)
  | none =>
    have htime := chooseActive_none hc
    by_cases ha : s.time.active = none
    · rw [if_pos ha] at htime
      refine ⟨htime ▸ hr, ?_, hrefs.disabledLost hd, fun h => ?_, fun _ => by rw [htime]⟩
      · rw [htime, hrefs.chosenRef, hc]
      · rw [htime] at h
        exact absurd ha (hlocked h)
    · rw [if_neg ha] at htime
      obtain ⟨hactive, _, _⟩ := loseReference_clock s.cfg.holdoverLimit { s.time with active := none }
      refine ⟨htime ▸ loseReference_inRange _ hr, ?_, hrefs.disabledLost hd, fun h => ?_, fun _ => by rw [htime, hactive]⟩
      · rw [htime, hactive, hrefs.chosenRef, hc]
      · exact absurd (htime ▸ h) (loseReference_loop _ _)

/-- The choice made again after references have been lost or disabled: none becomes QUALIFIED, so none becomes usable where none
was. -/
theorem chooseActive_fits_of_lost {s u : State} (hs : s.TimeFits) (htime : u.time = s.time) (hd : u.DisabledLost)
    (hlost : ∀ r : RefId, s.refs[r].qualified = false → u.refs[r].qualified = false) : (chooseActive u).1.TimeFits := by
  refine chooseActive_fits (htime ▸ hs.inRange) hd ?_ ?_ fun ha => ?_
  · rw [htime]; exact hs.locked
  · rw [htime]; exact hs.holdover
  · exact chosenRef_of_lost fun r => hlost r (hs.lost_of_none (htime ▸ ha) r)

theorem chooseActive_frameAgrees {s : State} (hs : s.FrameAgrees) : (chooseActive s).1.FrameAgrees := by
  have hframe : (chooseActive s).1.frame = s.frame :=
    congrArg (fun p => p.2.2.2.2.2.2.2.2.1) (chooseActive_anyPart s)
  have hclock : (chooseActive s).1.time.sec = s.time.sec ∧ (chooseActive s).1.time.ns = s.time.ns := by
    cases hc : chosenRef s with
    | some b => rw [chooseActive_some hc]; exact ⟨rfl, rfl⟩
    | none =>
      rw [chooseActive_none hc]; split
      · exact ⟨rfl, rfl⟩
      · exact (loseReference_clock _ _).2
  unfold State.FrameAgrees
  rw [hframe, hclock.1, hclock.2]
  exact hs

/-- The references and the copy with r's record written, before the choice is made again (R98). -/
def State.configured (r : RefId) (enable : Bool) (priority : Nat) (s : State) : State :=
  let old := s.cfg.refs[r]
  let s1 : State :=
    { s with cfg := { s.cfg with refs := s.cfg.refs.set r { old with enable := enable, priority := priority } } }
  if old.enable && !enable then s1.modRef r disableRef else s1

theorem takeRefConfig_eq (r : RefId) (enable : Bool) (priority : Nat) (s : State) :
    (takeRefConfig r enable priority s).1 = (chooseActive (s.configured r enable priority)).1 := rfl

section Configured

variable (r : RefId) (enable : Bool) (priority : Nat) (s : State)

theorem configured_time : (s.configured r enable priority).time = s.time := by
  unfold State.configured; dsimp only; split <;> rfl

theorem configured_frame : (s.configured r enable priority).frame = s.frame := by
  unfold State.configured; dsimp only; split <;> rfl

theorem configured_enable (j : RefId) :
    (s.configured r enable priority).cfg.refs[j].enable = if r = j then enable else s.cfg.refs[j].enable := by
  have hset : ∀ c : RefCfg, (s.cfg.refs.set r c)[j] = if r = j then c else s.cfg.refs[j] := fun c => by
    simp only [Fin.getElem_fin, Vector.getElem_set, Fin.ext_iff]
  have hcfg : (s.configured r enable priority).cfg.refs =
      s.cfg.refs.set r { s.cfg.refs[r] with enable := enable, priority := priority } := by
    unfold State.configured; dsimp only; split <;> rfl
  rw [hcfg, hset]; split <;> rfl

theorem configured_qualified (j : RefId) : (s.configured r enable priority).refs[j].qualified =
    if r = j ∧ s.cfg.refs[r].enable = true ∧ enable = false then false else s.refs[j].qualified := by
  unfold State.configured; dsimp only; split
  · rename_i h
    simp only [Bool.and_eq_true, Bool.not_eq_true'] at h
    rw [State.modRef_get]
    by_cases hj : r = j
    · rw [if_pos hj, if_pos ⟨hj, h⟩]; rfl
    · rw [if_neg hj, if_neg fun k => hj k.1]
  · rename_i h
    simp only [Bool.and_eq_true, Bool.not_eq_true'] at h
    exact (if_neg fun k => h k.2).symm

end Configured

theorem configured_disabledLost (r : RefId) (enable : Bool) (priority : Nat) {s : State} (hs : s.DisabledLost) :
    (s.configured r enable priority).DisabledLost := by
  intro j hj
  rw [configured_enable] at hj
  rw [configured_qualified]
  split
  · rfl
  · rename_i h
    refine hs j ?_
    split at hj
    · rename_i hrj
      subst hrj hj
      exact Bool.eq_false_iff.2 fun he => h ⟨rfl, he, rfl⟩
    · exact hj

theorem takeRefConfig_timeKept (r : RefId) (enable : Bool) (priority : Nat) (s : State) :
    TimeKept s (takeRefConfig r enable priority s).1 := by
  rw [takeRefConfig_eq]
  refine ⟨fun hs => ?_, fun hs => chooseActive_frameAgrees ?_⟩
  · refine chooseActive_fits_of_lost hs (configured_time r enable priority s)
      (configured_disabledLost r enable priority hs.disabled) fun j hj => ?_
    rw [configured_qualified, hj, ite_self]
  · unfold State.FrameAgrees
    rw [configured_time, configured_frame]
    exact hs

/-! ## Frame ticks (R116 to R119) -/

theorem takeDue_timePart (g : GroupId) (s : State) : (takeDue g s).1.timePart = s.timePart := by
  unfold takeDue; dsimp only; split
  · exact Eff.andThen_keeps State.timePart ((timePart_of_reportPart (handCommitDone_reportPart _ _ _ _)).trans rfl)
      fun _ => rfl
  · rfl

theorem tickGroups_timePart (disc : Bool) (s : State) : (tickGroups disc s).1.timePart = s.timePart := by
  unfold tickGroups; split
  · refine foldEff_keeps State.timePart (fun g t => ?_) _ s
    split
    · exact (timePart_of_reportPart (handCommitDone_reportPart _ _ _ _)).trans rfl
    · rfl
  · refine (timePart_of_lightPart (judgeHolds_lightPart _)).trans (foldEff_keeps State.timePart (fun g t => ?_) _ s)
    split
    · exact takeDue_timePart g t
    · rfl

theorem handFrames_timePart (disc : Bool) (s : State) : (handFrames disc s).1.timePart = s.timePart :=
  timePart_of_reportPart (handAll_reportPart _ _ _ _)

/-- A tick puts the frame number of cabinet time in force and leaves the rest of the timebase alone (R116). -/
theorem takeTick_timePart (disc : Bool) (order : TickOrder) (s : State) :
    (takeTick disc order s).1.timePart = { s with frame := frameOf s.time.sec s.time.ns }.timePart := by
  unfold takeTick; dsimp only; split
  · rename_i h; rw [h]
  · split
    · exact Eff.andThen_keeps State.timePart (tickGroups_timePart disc _) (handFrames_timePart disc)
    · exact Eff.andThen_keeps State.timePart (handFrames_timePart disc _) (tickGroups_timePart disc)

theorem takeTick_fits (disc : Bool) (order : TickOrder) {s : State} (h : s.TimeFits) : (takeTick disc order s).1.TimeFits :=
  timeFits_of_timePart (takeTick_timePart disc order s)
    ⟨h.inRange, h.chosen, h.disabled, h.locked, h.holdover⟩

theorem takeTick_frameAgrees (disc : Bool) (order : TickOrder) (s : State) : (takeTick disc order s).1.FrameAgrees :=
  frameAgrees_of_timePart (takeTick_timePart disc order s) rfl

/-- An act that a tick ends keeps the frame number by the tick. -/
theorem takeTick_timeKept (disc : Bool) (order : TickOrder) {s u : State} (h : s.TimeFits → u.TimeFits) :
    TimeKept s (takeTick disc order u).1 :=
  ⟨fun hs => takeTick_fits disc order (h hs), fun _ => takeTick_frameAgrees disc order u⟩

/-! ## Pulses (R101, R103) -/

theorem acceptPulse_qualified (r : RefId) (cap : Stamp) (s : State) (j : RefId) :
    (s.modRef r (acceptPulse cap)).refs[j].qualified = if r = j then true else s.refs[j].qualified := by
  rw [State.modRef_get]; split <;> rfl

/-- An accepted pulse makes its reference usable; where none was, it is R99's choice (R101). -/
theorem chosenRef_acceptPulse {r : RefId} (cap : Stamp) {s : State} (he : s.cfg.refs[r].enable = true) :
    ∃ b, chosenRef (s.modRef r (acceptPulse cap)) = some b ∧ ((∀ j : RefId, s.refs[j].qualified = false) → b = r) := by
  have husable : usable (s.modRef r (acceptPulse cap)) r = true :=
    (usable_iff _ r).2 ⟨he, by rw [acceptPulse_qualified, if_pos rfl]⟩
  cases hc : chosenRef (s.modRef r (acceptPulse cap)) with
  | none => exact absurd (chosenRef_eq_none.1 hc r) (husable ▸ nofun)
  | some b =>
    refine ⟨b, rfl, fun hlost => by_contra fun hne => ?_⟩
    have hb := ((usable_iff _ b).1 (usable_of_chosenRef hc)).2
    rw [acceptPulse_qualified, if_neg (Ne.symm hne), hlost b] at hb
    exact absurd hb nofun

/-- R99's choice and the loop after an accepted pulse (R103): the pulse's reference is usable, so there is an active reference;
and the loop acts on a pulse that comes in HOLDOVER, as it is the first to make a reference active. -/
theorem acceptedPulse_fits {r : RefId} (cap : Stamp) {s : State} (hs : s.TimeFits) (he : s.cfg.refs[r].enable = true) :
    (pulseActs r cap s.time.active (chooseActive (s.modRef r (acceptPulse cap))).1).TimeFits := by
  obtain ⟨b, hb, hfirst⟩ := chosenRef_acceptPulse cap he
  have htime := chooseActive_some hb
  have hrefs := chooseActive_sameRefs (s.modRef r (acceptPulse cap))
  have hactive : (chooseActive (s.modRef r (acceptPulse cap))).1.time.active = some b := by rw [htime]
  have hdisabled : (s.modRef r (acceptPulse cap)).DisabledLost := fun j hj => by
    have hne : r ≠ j := by
      rintro rfl
      exact Bool.noConfusion (he.symm.trans hj)
    rw [acceptPulse_qualified, if_neg hne]
    exact hs.disabled j hj
  have hacted := pulseActs_acted r cap s.time.active (s := (chooseActive (s.modRef r (acceptPulse cap))).1) fun hl => by
    have hnone : s.time.active = none := hs.holdover (by rw [htime] at hl; exact hl)
    rw [hactive, hfirst (hs.lost_of_none hnone), hnone]
    exact decide_eq_true ⟨rfl, .inr rfl⟩
  refine ⟨hacted.inRange (htime ▸ hs.inRange), ?_, (hrefs.trans hacted.refs).disabledLost hdisabled, fun _ => ?_,
    fun h => absurd h hacted.loop⟩
  · rw [hacted.active, hactive, (hrefs.trans hacted.refs).chosenRef, hb]
  · rw [hacted.active, hactive]; exact Option.some_ne_none b

theorem judgePulse_timeKept (r : RefId) (cap : Stamp) (order : TickOrder) {s : State} (he : s.cfg.refs[r].enable = true) :
    TimeKept s (judgePulse r cap order s).1 := by
  unfold judgePulse; dsimp only; split
  · exact takeTick_timeKept true order fun hs => acceptedPulse_fits cap hs he
  · dsimp only; exact modRef_timeKept s r rfl

theorem takePulse_timeKept (r : RefId) (order : TickOrder) (s : State) : TimeKept s (takePulse r order s).1 := by
  unfold takePulse; split
  · split
    · rename_i h
      exact (modRef_timeKept s r rfl).trans (judgePulse_timeKept r _ order h.2)
    · exact .refl s
  · exact .refl s

theorem lineEdge_timeKept (r : RefId) (rising : Bool) (s : State) : TimeKept s (lineEdge r rising s) := by
  unfold lineEdge
  refine modRef_timeKept s r ?_
  split
  · split <;> rfl
  · rfl

/-! ## Expiries (R102, R114) -/

theorem takeMiss_timeKept (r : RefId) (s : State) : TimeKept s (takeMiss r s).1 := by
  unfold takeMiss; split
  · refine ⟨fun hs => ?_, fun hs => chooseActive_frameAgrees hs⟩
    have hlost : ∀ j : RefId, s.refs[j].qualified = false → (s.modRef r fun x =>
        { x with qualified := false, capture := none, misses := 0, missTimer := none }).refs[j].qualified = false :=
      fun j hj => by
        rw [State.modRef_get]; split
        · rfl
        · exact hj
    exact chooseActive_fits_of_lost hs rfl (fun j hj => hlost j (hs.disabled j hj)) hlost
  · dsimp only; exact modRef_timeKept s r rfl

theorem takeHoldSecond_timeKept (s : State) : TimeKept s (takeHoldSecond s).1 := by
  unfold takeHoldSecond; dsimp only; split
  · exact ⟨fun hs => hs.of_time (time_sameRefs _ _) hs.inRange rfl nofun nofun, id⟩
  · exact .same rfl

/-! ## The oscillator period (R93, R95) -/

theorem advancePeriod_fits {s : State} (hs : s.TimeFits) : (advancePeriod s).TimeFits := by
  have hrefs : SameRefs s (advancePeriod s) := by
    refine ⟨fun r => ?_, fun _ => rfl, fun _ => rfl⟩
    show (Vector.ofFn fun i => periodRef (increment s.time) s.refs[i])[r].qualified = _
    rw [ofFn_get]; rfl
  have hkeep : (advance s.time).active = s.time.active ∧ (advance s.time).loop = s.time.loop := by
    unfold advance; dsimp only; split <;> exact ⟨rfl, rfl⟩
  exact hs.of_time hrefs (advance_inRange hs.inRange) hkeep.1 (hkeep.2 ▸ id) (hkeep.2 ▸ id)

theorem countPeriod_timePart (s : State) : (countPeriod s).timePart = s.timePart := by
  unfold countPeriod; split <;> rfl

theorem takePeriod_timeKept (order : TickOrder) (s : State) : TimeKept s (takePeriod order s).1 :=
  takeTick_timeKept false order fun hs => timeFits_of_timePart (countPeriod_timePart _) (advancePeriod_fits hs)

end Sys2Proof.Machine
end

section
/-! SUPPORT. The other blocks' operations leave the part of the state that the timebase's invariants read alone, and of the region
words those of the references' enables and priorities alone reach it. -/

namespace Sys2Proof.Machine

open Sys2Proof

/-! ## Links (chapter 1) -/

theorem failedFrame_lightPart (n : SlotId) (s : State) : (failedFrame n s).lightPart = s.lightPart := by
  have hlose : ∀ t, (loseAlignment n t).lightPart = t.lightPart := fun t => by
    unfold loseAlignment; dsimp only; split <;> simp
  unfold failedFrame; split
  · rfl
  · rfl
  · rfl
  · dsimp only; split
    · exact (hlose _).trans (modLink_lightPart _ _ _)
    · rfl

theorem judgeReply_lightPart (n : SlotId) (e : Echo) (k : Nat) (s : State) :
    (judgeReply n e k s).1.lightPart = s.lightPart := by
  unfold judgeReply; dsimp only; split_ifs
  · exact Eff.andThen_keeps State.lightPart (modLink_lightPart _ _ _) (takeLinkOpen_lightPart n)
  · rfl
  · rfl

theorem replyArrives_lightPart (n : SlotId) (seq : BitVec 16) (k : Nat) (s : State) :
    (replyArrives n seq k s).1.lightPart = s.lightPart := by
  unfold replyArrives; split
  · rfl
  · rfl
  · rfl
  · dsimp only; split
    · split
      · exact (judgeReply_lightPart n _ k _).trans (modLink_lightPart _ _ _)
      · rfl
    · rfl

theorem beginNotice_lightPart (n : SlotId) (s : State) : (beginNotice n s).lightPart = s.lightPart := by
  unfold beginNotice; split <;> rfl

theorem handFence_lightPart (n : SlotId) (s : State) : (handFence n s).1.lightPart = s.lightPart := by
  unfold handFence; split
  · exact (takeFence_lightPart n _).trans (modLink_lightPart _ _ _)
  · rfl

/-! ## Queues and the swap sequencer (chapters 3 and 8) -/

theorem offerZeroing_lightPart (s : State) : (offerZeroing s).lightPart = s.lightPart := by
  unfold offerZeroing; split
  · rfl
  · split <;> rfl

theorem zeroed_lightPart (q : QueueId) (s : State) : (zeroed q s).1.lightPart = s.lightPart := by
  have hready : ∀ t, (readyNotices q t).1.lightPart = t.lightPart := fun t => by
    unfold readyNotices; dsimp only; split
    · exact queueNotice_lightPart _ _ _ _
    · exact Eff.andThen_keeps State.lightPart (queueNotice_lightPart _ _ _ _) (queueNotice_lightPart _ _ _)
  unfold zeroed; split
  · exact (hready _).trans (modQueue_lightPart _ _ _)
  · rfl

theorem takeBackoff_lightPart (n : SlotId) (s : State) : (takeBackoff n s).1.lightPart = s.lightPart := by
  unfold takeBackoff; split
  · exact takeSeat_lightPart n s
  · exact takeLockOut_lightPart n s

/-! ## Warm reset and the commit engine (chapter 5, R194) -/

theorem carryOutWarm_timePart (s : State) : (carryOutWarm s).timePart = s.timePart := by
  simp only [State.timePart, carryOutWarm, warmStaging, emptyLists, closeQueues, warmLinks]

theorem warmIfDue_timePart (s : State) : (warmIfDue s).timePart = s.timePart := by
  unfold warmIfDue; split
  · exact carryOutWarm_timePart s
  · rfl

theorem takeWarm_timePart (s : State) : (takeWarm s).timePart = s.timePart := by
  unfold takeWarm; split
  · rfl
  · exact carryOutWarm_timePart s

theorem serveRound_timePart (g : GroupId) (s : State) : (serveRound g s).1.timePart = s.timePart := by
  unfold serveRound; split
  · exact Eff.andThen_keeps State.timePart ((timePart_of_reportPart (handCommitDone_reportPart _ _ _ _)).trans rfl)
      fun t => (warmIfDue_timePart _).trans (timePart_of_lightPart (judgeHolds_lightPart t))
  · rfl

theorem completeCommit_timePart (ws : List WriteWord) (s : State) : (completeCommit ws s).1.timePart = s.timePart := by
  unfold completeCommit; dsimp only; split
  · exact (serveRound_timePart _ _).trans rfl
  · rfl

/-! ## The memory port (section 2.6) -/

theorem takeGrant_timePart (s : State) : (takeGrant s).timePart = s.timePart := by
  unfold takeGrant; split
  · rfl
  · split
    · rfl
    · rfl
    · rfl
    · exact (timePart_of_lightPart (handStaging_lightPart _ _ _)).trans rfl
    · rfl

theorem completeZeroing_timePart (q : QueueId) (base : Nat) (s : State) :
    (completeZeroing q base s).1.timePart = s.timePart := (timePart_of_lightPart (zeroed_lightPart q _)).trans rfl

/-! ## The environment (chapter 11) -/

theorem startPass_timePart (s : State) : (startPass s).timePart = s.timePart := by unfold startPass; split <;> rfl

theorem nextChannel_timePart (j : ChannelId) (s : State) : (nextChannel j s).timePart = s.timePart := by
  unfold nextChannel; split
  · rfl
  · unfold endPass; split
    · exact startPass_timePart _
    · rfl

theorem takeScanNow_timePart (s : State) : (takeScanNow s).timePart = s.timePart := by
  unfold takeScanNow; split
  · rfl
  · exact startPass_timePart s

theorem takeInterval_timePart (s : State) : (takeInterval s).timePart = s.timePart := by
  unfold takeInterval; dsimp only; split
  · rfl
  · exact startPass_timePart _

theorem takeResult_timePart (j : ChannelId) (r : Nat) (s : State) : (takeResult j r s).1.timePart = s.timePart :=
  nextChannel_timePart j _

theorem takeChannelConfig_timePart (j : ChannelId) (new : ChannelCfg) (s : State) :
    (takeChannelConfig j new s).1.timePart = s.timePart := by
  unfold takeChannelConfig; dsimp only; split_ifs
  · exact nextChannel_timePart j _
  · rfl
  · exact nextChannel_timePart j _
  · rfl

/-! ## Windows (chapter 2) -/

theorem recordWorst_lightPart (n : SlotId) (ps : List Placed) (s : State) : (recordWorst n ps s).1.lightPart = s.lightPart := by
  unfold recordWorst; split <;> rfl

theorem takeRead_timePart (n : SlotId) (tag : Byte) (addr : Word) (count : Nat) (s : State) :
    (takeRead n tag addr count s).1.timePart = s.timePart := by
  have hlatch : ∀ b : Bool, (if b then takeLatch n s else s).timePart = s.timePart := fun b => by cases b <;> rfl
  exact (timePart_of_lightPart (recordWorst_lightPart n _ _)).trans (hlatch _)

/-! ## The control shadow (chapter 13) -/

/-- Of a reference's record a setting is its cable delay alone, which R99's choice does not look at (R98). -/
theorem judgeSetting_refs (c : Cfg) (k : Nat) (w : Word) (r : RefId) :
    (judgeSetting c k w).refs[r].enable = c.refs[r].enable ∧ (judgeSetting c k w).refs[r].priority = c.refs[r].priority := by
  have hdelay : ∀ (i : RefId) (d : Nat), (c.refs.set i { c.refs[i] with delay := d })[r].enable = c.refs[r].enable ∧
      (c.refs.set i { c.refs[i] with delay := d })[r].priority = c.refs[r].priority := fun i d => by
    by_cases h : i = r
    · subst h; simp
    · have hset : (c.refs.set i { c.refs[i] with delay := d })[r] = c.refs[r] :=
        Vector.getElem_set_ne _ _ fun e => h (Fin.ext e)
      rw [hset]; exact ⟨rfl, rfl⟩
  unfold judgeSetting; split <;> try exact ⟨rfl, rfl⟩
  · exact hdelay 0 _
  · exact hdelay 1 _

theorem judgeSetting_timePart (k : Nat) (w : Word) (s : State) :
    ({ s with cfg := judgeSetting s.cfg k w } : State).timePart = s.timePart := by
  simp only [State.timePart, judgeSetting_refs]

theorem takeLogWords_timePart (w : Word) (s : State) : (takeLogBase w s).timePart = s.timePart ∧
    (takeLogCode w s).timePart = s.timePart ∧ (takeLogRead w s).timePart = s.timePart := by
  refine ⟨?_, ?_, ?_⟩
  · unfold takeLogBase; dsimp only; split <;> rfl
  · unfold takeLogCode; dsimp only; split_ifs <;> rfl
  · unfold takeLogRead; split <;> rfl

theorem takeGlobalWord_timeKept (k : Nat) (w : Word) (s : State) : TimeKept s (takeGlobalWord k w s).1 := by
  obtain ⟨hbase, hcode, hread⟩ := takeLogWords_timePart w s
  unfold takeGlobalWord; split
  · exact timeKept_if (.same (takeWarm_timePart s))
  · exact .light (takeAckWord_lightPart w s)
  · exact timeKept_if (.same (takeScanNow_timePart s))
  · exact timeKept_if (.same rfl)
  · exact .same rfl
  · exact .same rfl
  · exact .same rfl
  · exact .same ((timePart_of_lightPart (formBudget_lightPart _)).trans rfl)
  · exact takeRefConfig_timeKept 0 _ _ s
  · exact takeRefConfig_timeKept 1 _ _ s
  · exact .same rfl
  · exact .same hbase
  · exact .same hcode
  · exact .same hread
  · split_ifs
    · exact .same (takeChannelConfig_timePart _ _ s)
    · exact .same rfl
    · exact .same (judgeSetting_timePart _ w s)

theorem takeSlotWord_timePart (n : SlotId) (k : Nat) (be : Mask) (w : Word) (s : State) :
    (takeSlotWord n k be w s).1.timePart = s.timePart := by
  unfold takeSlotWord; dsimp only; split
  · split
    · exact (timePart_of_lightPart (policyActs_lightPart n _ _)).trans rfl
    · rfl
  · rfl
  · exact timePart_of_lightPart (takeSlotCommand_lightPart n w s)
  · rfl

theorem takeQueueWord_timePart (q : QueueId) (k : Nat) (be : Mask) (w : Word) (s : State) :
    (takeQueueWord q k be w s).timePart = s.timePart := by
  unfold takeQueueWord; split_ifs
  · split
    · exact timePart_of_lightPart (takeOpen_lightPart q s)
    · exact timePart_of_lightPart (takeClose_lightPart q s)
    · rfl
  · rfl
  · rfl

theorem takeGroupWord_timePart (g : GroupId) (k : Nat) (w : Word) (s : State) :
    (takeGroupWord g k w s).timePart = s.timePart := by
  unfold takeGroupWord; dsimp only; split <;> rfl

theorem takePointWord_timePart (p : PointId) (k : Nat) (w : Word) (s : State) :
    (takePointWord p k w s).1.timePart = s.timePart := by
  have hacts : ∀ a b, (pointActs p a b (setPointCfg p k w s)).1.timePart = s.timePart := fun a b =>
    (timePart_of_reportPart (pointActs_reportPart p a b _)).trans rfl
  unfold takePointWord tellShed; dsimp only; split_ifs
  · exact hacts _ _
  · exact Eff.andThen_keeps State.timePart (hacts _ _) fun _ => (timePart_of_lightPart (formBudget_lightPart _)).trans rfl
  · rfl

/-- A region word taken, whatever its record (R191). -/
theorem takeRegion_timeKept (idx : RegionIdx) (d : Word) (be : Mask) (s : State) :
    TimeKept s (takeRegion idx d be s).1 := by
  unfold takeRegion takeFormed; split
  · exact takeGlobalWord_timeKept _ _ s
  · exact .same (takeSlotWord_timePart _ _ _ _ s)
  · exact .same rfl
  · exact .same (takeQueueWord_timePart _ _ _ _ s)
  · exact .same (takeGroupWord_timePart _ _ _ s)
  · exact .same (takePointWord_timePart _ _ _ s)
  · exact .refl s

/-! ## The words of a WRITE (R27) -/

theorem showWord_timeKept (n : SlotId) (sa : Word) (a : Nat) (d : Word) (be : Mask) (f : Bool) (s : State) :
    TimeKept s (showWord n sa a d be f s).1 := by
  unfold showWord; split
  · unfold showRegion; split_ifs
    · exact .refl s
    · exact .light (recordFault_lightPart n sa _ s)
    · exact Eff.andThen_timeKept (takeRegion_timeKept _ d be s) fun t => .light (appendWord_lightPart n _ t)
  · split
    · exact .light (showIndex_lightPart n sa a _ _ d be s)
    · exact .light (appendWord_lightPart n _ s)

theorem showWords_timeKept (n : SlotId) : ∀ (rs : List Routed) (f : Bool) (s : State), TimeKept s (showWords n rs f s).1
  | [], _, s => .refl s
  | .mem sa a d be :: rest, f, s => Eff.andThen_timeKept (showWord_timeKept n sa a d be f s) (showWords_timeKept n rest _)
  | .staging _ :: rest, f, s => showWords_timeKept n rest f s

theorem takeWrite_timeKept (n : SlotId) (addr : Word) (first last : Mask) (data : List Word) (s : State) :
    TimeKept s (takeWrite n addr first last data s).1 :=
  Eff.andThen_timeKept (.light (recordWorst_lightPart n _ s)) fun t =>
    Eff.andThen_timeKept (showWords_timeKept n _ false t) fun u => .light (keepOrHand_lightPart n _ u)

theorem takeHeadRead_timeKept (n : SlotId) (s : State) : TimeKept s (takeHeadRead n s) := by
  unfold takeHeadRead; split
  · exact timeKept_event (.same (takeRead_timePart n _ _ _ s))
  · exact .refl s

theorem takeHeadWrite_timeKept (n : SlotId) (s : State) : TimeKept s (takeHeadWrite n s) := by
  unfold takeHeadWrite; split
  · exact (TimeKept.light (modLink_lightPart s n popFrame)).trans (timeKept_event (takeWrite_timeKept n _ _ _ _ _))
  · exact .refl s

theorem sendWrite_timeKept (o : Origin) (d : Word) (be : Mask) (s : State) : TimeKept s (sendWrite o d be s) :=
  (TimeKept.light (modLink_lightPart s o.slot _)).trans (takeHeadWrite_timeKept o.slot _)

theorem armWrite_timeKept (o : Origin) (g : GroupId) (d : Word) (be : Mask) (s : State) :
    TimeKept s (armWrite o g d be s) := timeKept_if (sendWrite_timeKept o d be s)

theorem regionWrite_timeKept (o : Origin) (idx : RegionIdx) (d : Word) (be : Mask) (s : State) :
    TimeKept s (regionWrite o idx d be s) := timeKept_if (sendWrite_timeKept o d be s)

end Sys2Proof.Machine
end

section
/-! PROOF. Every command keeps the two invariants of the timebase; and the statement about the timebase. -/

namespace Sys2Proof.Machine

open Sys2Proof

/-! ## Every command -/

theorem timeKept_event_if {p : Prop} [Decidable p] {act : State → Eff} {s : State} (h : TimeKept s (act s).1) :
    TimeKept s (if p then event act s else s) := timeKept_if (timeKept_event h)

/-- A command that answers a state in which both invariants are kept. -/
theorem timeKept_next {s u t : State} (hu : TimeKept s u) (h : (.next u : Out) = .next t) : TimeKept s t := by
  cases h; exact hu

/-- COLD_RESET leaves F, A and cabinet time at 0 and the loop in FREE with both references disabled and LOST (R110, R116). -/
theorem cold_timeFits (x : Straps) (m : Memory) (p : List Instr) :
    (State.cold x m p).TimeFits ∧ (State.cold x m p).FrameAgrees := by
  have hlost : ∀ r : RefId, (State.cold x m p).refs[r].qualified = false := fun r => by
    rw [show (State.cold x m p).refs[r] = Reference.cold from Vector.getElem_replicate _]; rfl
  have hrange : Timebase.cold.InRange := by unfold Timebase.InRange; decide
  exact ⟨⟨hrange, (chosenRef_of_lost hlost).symm, fun r _ => hlost r, nofun, fun _ => rfl⟩,
    show 0 = frameOf 0 0 from rfl⟩

theorem exec_timeKept {c : Instr} {s t : State} (h : exec c s = .next t) : TimeKept s t := by
  cases c with
  | coldReset x =>
    cases h
    obtain ⟨hfits, hframe⟩ := cold_timeFits x s.mem s.pending
    exact ⟨fun _ => hfits, fun _ => hframe⟩
  -- writes of one word of the control region or of an arm word
  | warmReset | secondsLoad | openQueue | closeQueue | powerOn | removeSlot | clearLockout | ackPoint | ackAll | relayOn
  | relayOff | relayFollow | relayConfigWrite | scanNow | channelConfigWrite | logReadIndexWrite | windowRecordWrite
  | referenceEnableWrite | referencePriorityWrite | pointEnableWrite | pointLatchedWrite | pointSeverityWrite
  | pointRelayMarksWrite | pointShedTriggerWrite | senseModeWrite | slotPolicyWrite | slotDrawWrite | shedPriorityWrite
  | controlRightWrite | controlRegionWrite =>
    exact timeKept_next (regionWrite_timeKept _ _ _ _ s) h
  | queueDescriptorWrite o q field =>
    refine timeKept_next ?_ h
    cases field <;> exact regionWrite_timeKept o _ _ _ s
  | groupConfigWrite o g field =>
    refine timeKept_next ?_ h
    cases field <;> exact regionWrite_timeKept o _ _ _ s
  | budgetWrite o field =>
    refine timeKept_next ?_ h
    cases field <;> exact regionWrite_timeKept o _ _ _ s
  | logConfigWrite o field =>
    refine timeKept_next ?_ h
    cases field <;> exact regionWrite_timeKept o _ _ _ s
  | armGroup | disarmGroup | discardGroup => exact timeKept_next (armWrite_timeKept _ _ _ _ s) h
  | armWordIgnored o g data enables => exact timeKept_next (timeKept_if (armWrite_timeKept o g data enables s)) h
  -- the timebase
  | localOscillatorPeriod order => exact timeKept_next (timeKept_event (takePeriod_timeKept order s)) h
  | continuousFrameTick order => exact timeKept_next (timeKept_event_if (takePeriod_timeKept order s)) h
  | pulseEvent r order => exact timeKept_next (timeKept_event (takePulse_timeKept r order s)) h
  | missTimerExpiry r => exact timeKept_next (timeKept_event_if (takeMiss_timeKept r s)) h
  | holdoverTimerExpiry => exact timeKept_next (timeKept_event_if (takeHoldSecond_timeKept s)) h
  | referenceLineEdge r rising => exact timeKept_next (lineEdge_timeKept r rising s) h
  -- resets and start-up
  | coldStartUpWriteComplete =>
    revert h; show execColdStartUpWriteComplete s = _ → _
    unfold execColdStartUpWriteComplete; split
    · exact timeKept_next (timeKept_event (.same rfl))
    · exact timeKept_next (.refl s)
  | warmResetCarriedOut => exact timeKept_next (.same (warmIfDue_timePart s)) h
  -- links
  | readFrameArrival n tag addr count | writeFrameArrival n addr first last data =>
    refine timeKept_next (.light ?_) h
    split
    · exact modLink_lightPart s n _
    · exact failedFrame_lightPart n s
  | readyToFenceArrival n | idleArrival n | transmitFrameEnd n => exact timeKept_next (.light (modLink_lightPart s n _)) h
  | echoReplyArrival n seq k => exact timeKept_next (timeKept_event (.light (replyArrives_lightPart n seq _ s))) h
  | frameCheckFailed n => exact timeKept_next (.light (failedFrame_lightPart n s)) h
  | echoReplyTimerExpiry n | errorWindowEnd n => exact timeKept_next (timeKept_event_if (.light (modLink_lightPart s n _))) h
  | echoCadenceDue n | sendGo n | sendHold n | sendEcho n | sendData n | sendIdle n =>
    exact timeKept_next (timeKept_if (.light (modLink_lightPart s n _))) h
  | sendNotice n => exact timeKept_next (timeKept_if (.light (beginNotice_lightPart n s))) h
  | resyncAdd n => exact timeKept_next (.light (modList_lightPart s n _)) h
  -- windows and the memory port
  | windowTakeRead n => exact timeKept_next (takeHeadRead_timeKept n s) h
  | windowTakeWrite n => exact timeKept_next (takeHeadWrite_timeKept n s) h
  | readyToFenceTaken n => exact timeKept_next (timeKept_event_if (.light (handFence_lightPart n s))) h
  | timeWord0Read n | statusMarkRead n => exact timeKept_next (timeKept_if (takeHeadRead_timeKept n s)) h
  | heldReadRelease n => exact timeKept_next (.light (setWaiting_lightPart s n _)) h
  | memoryGrant => exact timeKept_next (.same (takeGrant_timePart s)) h
  | slotReadComplete =>
    revert h; show execSlotReadComplete s = _ → _
    unfold execSlotReadComplete; split
    · exact timeKept_next (.same rfl)
    · exact timeKept_next (.refl s)
  | slotWriteComplete =>
    revert h; show execSlotWriteComplete s = _ → _
    unfold execSlotWriteComplete; split
    · exact timeKept_next (.same rfl)
    · exact timeKept_next (.refl s)
  | logWriteComplete =>
    revert h; show execLogWriteComplete s = _ → _
    unfold execLogWriteComplete; split
    · exact timeKept_next (.same rfl)
    · exact timeKept_next (.refl s)
  -- queues and the commit engine
  | queueZeroingOffer => exact timeKept_next (.light (offerZeroing_lightPart s)) h
  | zeroingComplete =>
    revert h; show execZeroingComplete s = _ → _
    unfold execZeroingComplete; split
    · exact timeKept_next (timeKept_event (.same (completeZeroing_timePart _ _ s)))
    · exact timeKept_next (.refl s)
  | commitRoundStart =>
    revert h; show execCommitRoundStart s = _ → _
    unfold execCommitRoundStart; split
    · exact timeKept_next (timeKept_event (.same (serveRound_timePart _ s)))
    · exact timeKept_next (.refl s)
  | commitTransactionComplete =>
    revert h; show execCommitTransactionComplete s = _ → _
    unfold execCommitTransactionComplete; split
    · exact timeKept_next (timeKept_event (.same (completeCommit_timePart _ s)))
    · exact timeKept_next (.refl s)
  -- slots
  | slotLineSample n lines | presentDebounced n lines | latchDebounced n lines | pgoodSteady n lines | pgoodLost n lines =>
    exact timeKept_next (timeKept_event_if (.light (sampleSlot_lightPart n lines s))) h
  | rampTimerExpiry n | linkTimerExpiry n | realignLimitExpiry n =>
    exact timeKept_next (timeKept_event_if (.light (takeFaulted_lightPart n _ s))) h
  | drainTimerExpiry n => exact timeKept_next (timeKept_event_if (.light (takeFence_lightPart n s))) h
  | powerDownTimerExpiry n => exact timeKept_next (timeKept_event_if (.light (takePowerDown_lightPart n s))) h
  | backoffTimerExpiry n => exact timeKept_next (timeKept_event_if (.light (takeBackoff_lightPart n s))) h
  | admitHead | readmitHead => exact timeKept_next (timeKept_event_if (.refl s)) h
  -- alarm points and the environment
  | raiseDebounceExpiry p =>
    exact timeKept_next (timeKept_event_if (.light (tellShed_lightPart
      (fun t => lightPart_of_reportPart (raisePoint_reportPart p _ t)) s))) h
  | clearDebounceExpiry p =>
    exact timeKept_next (timeKept_event_if (.light (tellShed_lightPart
      (fun t => lightPart_of_reportPart (clearPoint_reportPart p t)) s))) h
  | contactSample => exact timeKept_next (timeKept_event_if (.same rfl)) h
  | scanIntervalExpiry => exact timeKept_next (timeKept_if (.same (takeInterval_timePart s))) h
  | conversionComplete vin vref =>
    revert h; show execConversionComplete vin vref s = _ → _
    unfold execConversionComplete; split
    · exact timeKept_next (timeKept_event_if (.same (takeResult_timePart _ _ s)))
    · exact timeKept_next (.refl s)

/-- Settles O13: COLD_RESET leaves the timebase at rest; the oscillator period, pulses, misses, holdover seconds and writes of the
references' records keep the loop state against R99's choice, a tick or no move of cabinet time keeps the frame number, and every
other command leaves all of it alone. -/
theorem timebaseStaysInBounds : Obligations.TimebaseStaysInBounds := by
  obtain ⟨hfits, hframe⟩ := cold_timeFits Config.resetStraps [] []
  refine ⟨⟨timeFits_iff.1 hfits, fun s t hs h => ?_⟩, hframe, fun s t hs h => ?_⟩
  · rcases step_cases h with rfl | ⟨c, rest, hc⟩
    · exact hs
    · exact timeFits_iff.1 ((exec_timeKept hc).fits (timeFits_iff.2 hs))
  · rcases step_cases h with rfl | ⟨c, rest, hc⟩
    · exact hs
    · exact (exec_timeKept hc).frame hs

end Sys2Proof.Machine
end

section
/-! SUPPORT. The part of the state that R129 and R147 speak of (`State.powerPart`), and the invariant under a slot's change of
swap state: a change that leaves the part alone keeps the invariant, and only a change of swap state, with the fence of the slot's
link at the entry to FENCED, moves the part. -/

namespace Sys2Proof.Machine

open Sys2Proof

/-! ## The terms of the invariant -/

/-- A slot's swap state and its three outputs (R129). -/
def Swap.outputs (w : Swap) : SwapState × Bool × Bool × Bool := (w.state, w.pwrEn, w.linkEnable, w.readyLit)

/-- Whether a link is OFF, and whether it is FENCED (R3, R7). -/
def LinkPort.gate (l : LinkPort) : Bool × Bool := (decide (l.state = .off), decide (l.state = .fenced))

/-- What R129 and R147 speak of, slot by slot: the swap state, the outputs, and whether the link is OFF or FENCED. -/
def State.powerPart (s : State) (n : SlotId) : (SwapState × Bool × Bool × Bool) × Bool × Bool :=
  (s.swaps[n].outputs, s.links[n].gate)

/-- The part of a slot whose outputs and link follow its swap state. -/
def followingPart (st : SwapState) : (SwapState × Bool × Bool × Bool) × Bool × Bool :=
  ((st, powered st, linkEnabled st, readyLit st), decide (linkEnabled st = false), decide (st = .fenced))

/-- Slot n's outputs and link follow its swap state. -/
def State.SlotFollows (s : State) (n : SlotId) : Prop := s.powerPart n = followingPart s.swaps[n].state

/-- No two slots are in POWERING (R147). -/
def State.OneRamp (s : State) : Prop :=
  ∀ m n : SlotId, s.swaps[m].state = .powering → s.swaps[n].state = .powering → m = n

theorem gate_eq_iff {l : LinkPort} {p q : Prop} [Decidable p] [Decidable q] :
    l.gate = (decide p, decide q) ↔ (l.state = .off ↔ p) ∧ (l.state = .fenced ↔ q) := by
  simp only [LinkPort.gate, Prod.mk.injEq, decide_eq_decide]

theorem slotFollows_iff (s : State) (n : SlotId) : s.SlotFollows n ↔
    (s.swaps[n].pwrEn = powered s.swaps[n].state ∧ s.swaps[n].linkEnable = linkEnabled s.swaps[n].state ∧
      s.swaps[n].readyLit = readyLit s.swaps[n].state) ∧
    (s.links[n].state = .off ↔ linkEnabled s.swaps[n].state = false) ∧
      (s.links[n].state = .fenced ↔ s.swaps[n].state = .fenced) := by
  simp only [State.SlotFollows, State.powerPart, followingPart, Swap.outputs, LinkPort.gate, Prod.mk.injEq, true_and,
    decide_eq_decide]

theorem outputsFollow_iff (s : State) : s.OutputsFollow ↔ (∀ n, s.SlotFollows n) ∧ s.OneRamp := by
  simp only [slotFollows_iff, forall_and, State.OutputsFollow, State.OneRamp]
  tauto

theorem swapState_of_powerPart {s t : State} {n : SlotId} (h : t.powerPart n = s.powerPart n) :
    t.swaps[n].state = s.swaps[n].state := congrArg (fun p => p.1.1) h

theorem State.SlotFollows.congr {s t : State} {n : SlotId} (h : t.powerPart n = s.powerPart n) (hs : s.SlotFollows n) :
    t.SlotFollows n := by
  unfold State.SlotFollows
  rw [swapState_of_powerPart h, h]; exact hs

theorem State.OneRamp.congr {s t : State} (h : t.powerPart = s.powerPart) (hs : s.OneRamp) : t.OneRamp := by
  intro m n
  rw [swapState_of_powerPart (congrFun h m), swapState_of_powerPart (congrFun h n)]; exact hs m n

/-- From s to t the outputs and links go on following the swap states. -/
def KeepsOutputs (s t : State) : Prop := s.OutputsFollow → t.OutputsFollow

theorem KeepsOutputs.refl (s : State) : KeepsOutputs s s := id

theorem KeepsOutputs.trans {s t u : State} (h : KeepsOutputs s t) (k : KeepsOutputs t u) : KeepsOutputs s u := k ∘ h

/-- A change that leaves the part alone. -/
theorem KeepsOutputs.same {s t : State} (h : t.powerPart = s.powerPart) : KeepsOutputs s t := by
  intro hs
  rw [outputsFollow_iff] at hs ⊢
  obtain ⟨hslots, hramp⟩ := hs
  exact ⟨fun n => State.SlotFollows.congr (congrFun h n) (hslots n), State.OneRamp.congr h hramp⟩

/-- Acts one after the other. -/
theorem Eff.andThen_outputs {s : State} {e : Eff} {f : State → Eff} (he : KeepsOutputs s e.1)
    (hf : ∀ t, KeepsOutputs t (f t).1) : KeepsOutputs s (e.andThen f).1 := he.trans (hf _)

theorem foldEff_outputs {α : Type} {f : α → State → Eff} (h : ∀ a t, KeepsOutputs t (f a t).1) :
    ∀ (l : List α) (s : State), KeepsOutputs s (foldEff f l s).1
  | [], s => .refl s
  | a :: l, s => (h a s).trans (foldEff_outputs h l (f a s).1)

/-! ## Changes that leave the part alone -/

theorem powerPart_of_reportPart {s t : State} (h : t.reportPart = s.reportPart) : t.powerPart = s.powerPart := by
  have hpart : t.reportPart.powerPart = s.reportPart.powerPart := congrArg State.powerPart h
  exact hpart

theorem modSwap_powerPart (s : State) (n : SlotId) {f : Swap → Swap} (h : (f s.swaps[n]).outputs = s.swaps[n].outputs) :
    (s.modSwap n f).powerPart = s.powerPart := by
  funext m
  unfold State.powerPart
  rw [State.modSwap_get, State.modSwap_links]; split
  · rename_i hm; subst hm; rw [h]
  · rfl

theorem modLink_powerPart (s : State) (n : SlotId) {f : LinkPort → LinkPort} (h : (f s.links[n]).gate = s.links[n].gate) :
    (s.modLink n f).powerPart = s.powerPart := by
  funext m
  unfold State.powerPart
  rw [State.modLink_get, State.modLink_swaps]; split
  · rename_i hm; subst hm; rw [h]
  · rfl

theorem links_powerPart (s : State) {v : Vector LinkPort 12} (h : ∀ n : SlotId, v[n].gate = s.links[n].gate) :
    State.powerPart { s with links := v } = s.powerPart := by
  funext n
  show (s.swaps[n].outputs, v[n].gate) = _
  rw [h]; rfl

/-- A change of port n that leaves its link state alone. -/
theorem modLink_powerPart_of_state (s : State) (n : SlotId) {f : LinkPort → LinkPort}
    (h : (f s.links[n]).state = s.links[n].state) : (s.modLink n f).powerPart = s.powerPart :=
  modLink_powerPart s n (by unfold LinkPort.gate; rw [h])

/-- Stated for an opaque table, so that no later proof has to compare the tables of queues. -/
theorem queues_powerPart (s : State) (v : Vector Queue 64) : State.powerPart { s with queues := v } = s.powerPart := rfl

theorem modAdm_powerPart (s : State) (n : SlotId) (f : Admission → Admission) : (s.modAdm n f).powerPart = s.powerPart := rfl

theorem modAccess_powerPart (s : State) (n : SlotId) (f : AccessRecord → AccessRecord) :
    (s.modAccess n f).powerPart = s.powerPart := rfl

theorem handAll_powerPart (ns : List SlotId) (id : NoticeId) (d : SlotId → Details) (s : State) :
    (handAll ns id d s).1.powerPart = s.powerPart := powerPart_of_reportPart (handAll_reportPart ns id d s)

theorem handCommitDone_powerPart (g : GroupId) (r : CommitResult) (k : Nat) (s : State) :
    (handCommitDone g r k s).1.powerPart = s.powerPart := handAll_powerPart _ _ _ s

theorem queueNotice_powerPart (k : QueueNotice) (q : QueueId) (m : Nat) (s : State) :
    (queueNotice k q m s).1.powerPart = s.powerPart := by
  unfold queueNotice; split
  · exact powerPart_of_reportPart (handNotice_reportPart _ _ _ s)
  · rfl

theorem withdrawRead_powerPart (n : SlotId) (s : State) : (withdrawRead n s).powerPart = s.powerPart := by
  unfold withdrawRead; split <;> rfl

theorem withdrawStale_powerPart (s : State) : (withdrawStale s).powerPart = s.powerPart := by
  unfold withdrawStale; split
  · split <;> rfl
  · rfl

theorem detached_powerPart (n : SlotId) (s : State) : (s.detached n).powerPart = s.powerPart := by
  unfold State.detached
  rw [withdrawStale_powerPart, queues_powerPart]

theorem detachSlot_powerPart (n : SlotId) (s : State) : (detachSlot n s).1.powerPart = s.powerPart := by
  rw [detachSlot_eq]
  refine (foldEff_keeps State.powerPart (fun q t => ?_) _ _).trans (detached_powerPart n s)
  unfold detachNotice; split
  · rfl
  · exact queueNotice_powerPart _ _ _ t

/-- The teardown leaves swap states, outputs and links alone (R138). -/
theorem teardown_powerPart (n : SlotId) (s : State) : (teardown n s).1.powerPart = s.powerPart := by
  unfold teardown
  rw [detachSlot_powerPart]
  rfl

/-! ## A slot's change of swap state -/

theorem switchLink_swaps (n : SlotId) (a b : SwapState) (s : State) : (switchLink n a b s).1.swaps = s.swaps := by
  have hread : (withdrawRead n s).swaps = s.swaps := by unfold withdrawRead; split <;> rfl
  unfold switchLink; split_ifs
  · rfl
  · rfl
  · exact hread

section Switched

variable (n : SlotId) (st : SwapState) (r : Reason) (s : State)

/-- The other slots keep their part. -/
theorem switched_powerPart_ne {m : SlotId} (h : n ≠ m) : (s.switched n st r).powerPart m = s.powerPart m := by
  have hlinks := (slotPart_iff.1 (switched_slotPart n st r s)).2.1
  unfold State.powerPart
  rw [hlinks, State.modLink_get_ne _ _ _ _ h]
  unfold State.switched
  rw [switchLink_swaps]
  unfold enterSwap
  rw [State.modMarks_swaps, State.modSwap_get_ne _ _ _ _ h]; rfl

/-- The slot's outputs follow the state it enters (R129). -/
theorem switched_powerPart_self : (s.switched n st r).powerPart n =
    ((st, powered st, linkEnabled st, readyLit st), (switchedPort s.swaps[n].state st s.links[n]).gate) := by
  unfold State.powerPart
  rw [switched_link]
  unfold State.switched
  rw [switchLink_swaps]
  unfold enterSwap
  rw [State.modMarks_swaps, State.modSwap_get_self]; rfl

theorem moveSlot_powerPart : (moveSlot n st r s).1.powerPart = (s.switched n st r).powerPart := by
  rw [moveSlot_fst]; split
  · exact teardown_powerPart n _
  · rfl

theorem changeSwap_powerPart (c : Reason) {own : State → State} (ho : ∀ t, (own t).powerPart = t.powerPart) :
    (changeSwap n st r c own s).1.powerPart = (s.switched n st r).powerPart :=
  ((handAll_powerPart _ _ _ _).trans (ho _)).trans (moveSlot_powerPart n st r s)

theorem changeSwap_state (c : Reason) {own : State → State} (ho : ∀ t, (own t).powerPart = t.powerPart) :
    (changeSwap n st r c own s).1.swaps[n].state = st :=
  (swapState_of_powerPart (congrFun (changeSwap_powerPart n st r s c ho) n)).trans (switched_swap n st r s)

end Switched

/-- A link that was OFF exactly without link enable is so after the switch, and is FENCED exactly where it was to be. -/
theorem switchedPort_gate {a b : SwapState} {l : LinkPort} (hoff : l.state = .off ↔ linkEnabled a = false)
    (hfenced : linkEnabled b = true → (l.state = .fenced ↔ b = .fenced)) :
    (switchedPort a b l).gate = (decide (linkEnabled b = false), decide (b = .fenced)) := by
  rw [gate_eq_iff]
  cases hb : linkEnabled b with
  | false =>
    have hne : b ≠ .fenced := by rintro rfl; cases hb
    have hport : (switchedPort a b l).state = .off := by
      unfold switchedPort; split_ifs with h1 h2
      · exact hoff.2 (h1.trans hb)
      · exact absurd (hb.symm.trans h2) nofun
      · rfl
    simp [hport, hne]
  | true =>
    have hf := hfenced hb
    have hon : (switchedPort a b l).state ≠ .off := switchedPort_on hb fun ha h => by rw [hoff.1 h] at ha; cases ha
    refine ⟨by simp [hon], ?_⟩
    unfold switchedPort; split_ifs with h1
    · exact hf
    · have hl : l.state = .off := hoff.2 (by cases ha : linkEnabled a with
        | false => rfl
        | true => exact absurd (ha.trans hb.symm) h1)
      rw [hl] at hf
      rw [alignPort, if_pos hl, ← hf]
      exact ⟨nofun, nofun⟩

/-- A change of slot n's swap state, where the other slots' outputs and links follow, no other slot ramps if n is to, and n's
link is as the new state asks where link enable is on (R129, R147, R152). -/
theorem changeSwap_follows (n : SlotId) {st : SwapState} (r c : Reason) {own : State → State}
    (ho : ∀ t, (own t).powerPart = t.powerPart) {s : State} (hother : ∀ m, n ≠ m → s.SlotFollows m) (hramp : s.OneRamp)
    (hpowering : st = .powering → ramping s = false) (hoff : s.links[n].state = .off ↔ linkEnabled s.swaps[n].state = false)
    (hfenced : linkEnabled st = true → (s.links[n].state = .fenced ↔ st = .fenced)) :
    (changeSwap n st r c own s).1.OutputsFollow := by
  have hpart := changeSwap_powerPart n st r s c ho
  have hne : ∀ m, n ≠ m → (changeSwap n st r c own s).1.powerPart m = s.powerPart m := fun m h =>
    (congrFun hpart m).trans (switched_powerPart_ne n st r s h)
  have hstate := changeSwap_state n st r s c ho
  have hnew : ∀ m, n ≠ m → (changeSwap n st r c own s).1.swaps[m].state = .powering →
      s.swaps[m].state = .powering ∧ st ≠ .powering := fun m h hm => by
    rw [swapState_of_powerPart (hne m h)] at hm
    refine ⟨hm, fun hst => ?_⟩
    have := List.any_eq_false.1 (hpowering hst) m (List.mem_finRange m)
    exact this (decide_eq_true hm)
  rw [outputsFollow_iff]
  constructor
  · intro m
    by_cases h : n = m
    · subst h
      unfold State.SlotFollows
      rw [hstate, congrFun hpart n, switched_powerPart_self, switchedPort_gate hoff hfenced]; rfl
    · exact State.SlotFollows.congr (hne m h) (hother m h)
  · intro m k hm hk
    by_cases h : n = m <;> by_cases h' : n = k
    · exact h.symm.trans h'
    · subst h; exact absurd (hstate.symm.trans hm) (hnew k h' hk).2
    · subst h'; exact absurd (hstate.symm.trans hk) (hnew m h hm).2
    · exact hramp m k (hnew m h hm).1 (hnew k h' hk).1

/-- A change to a state other than FENCED, from one other than FENCED where link enable is on after it. -/
theorem changeSwap_outputs (n : SlotId) {st : SwapState} (r c : Reason) {own : State → State}
    (ho : ∀ t, (own t).powerPart = t.powerPart) {s : State} (hpowering : st = .powering → ramping s = false)
    (hst : linkEnabled st = true → st ≠ .fenced ∧ s.swaps[n].state ≠ .fenced) :
    KeepsOutputs s (changeSwap n st r c own s).1 := by
  intro hs
  obtain ⟨hslots, hramp⟩ := (outputsFollow_iff s).1 hs
  obtain ⟨-, hoff, hfenced⟩ := (slotFollows_iff s n).1 (hslots n)
  refine changeSwap_follows n r c ho (fun m _ => hslots m) hramp hpowering hoff fun h => ?_
  obtain ⟨hnew, hold⟩ := hst h
  exact ⟨fun hl => absurd (hfenced.1 hl) hold, fun hl => absurd hl hnew⟩

/-- A change to a state without link enable and without a ramp can be made from every state. -/
theorem changeSwap_unpowered (n : SlotId) {st : SwapState} (r c : Reason) {own : State → State}
    (ho : ∀ t, (own t).powerPart = t.powerPart) (hp : powered st = false) (s : State) :
    KeepsOutputs s (changeSwap n st r c own s).1 := by
  refine changeSwap_outputs n r c ho (fun h => ?_) fun h => ?_
  · subst h; cases hp
  · simp only [powered, linkEnabled, decide_eq_true_eq, decide_eq_false_iff_not] at h hp
    exact absurd (.inr h) hp

end Sys2Proof.Machine
end

section
/-! SUPPORT. The swap sequencer's, the alarm unit's and the admission unit's operations, and events: each keeps the outputs and
links following the swap states, from the swap states that it is taken in. -/

namespace Sys2Proof.Machine

open Sys2Proof

/-! ## The swap sequencer (chapter 8) -/

/-- A change of slot n's record that leaves its swap state and outputs alone. -/
theorem modSwap_outputs (s : State) (n : SlotId) {f : Swap → Swap} (h : (f s.swaps[n]).outputs = s.swaps[n].outputs) :
    KeepsOutputs s (s.modSwap n f) := .same (modSwap_powerPart s n h)

theorem startTimer_powerPart (n : SlotId) (ms : Nat) (s : State) : (startTimer n ms s).powerPart = s.powerPart :=
  modSwap_powerPart s n rfl

theorem clearDraw_powerPart (n : SlotId) (s : State) : (clearDraw n s).powerPart = s.powerPart := modAdm_powerPart s n _

theorem attachSlot_powerPart (n : SlotId) (s : State) : (attachSlot n s).powerPart = s.powerPart := queues_powerPart s _

theorem enterOff_outputs (n : SlotId) (c : Reason) (s : State) : KeepsOutputs s (enterOff n c s).1 :=
  changeSwap_unpowered n c c (clearDraw_powerPart n) rfl s

theorem enterSeated_outputs (n : SlotId) (s : State) : KeepsOutputs s (enterSeated n s).1 :=
  changeSwap_unpowered n _ _ (fun _ => rfl) rfl s

theorem takeSeat_outputs (n : SlotId) (s : State) : KeepsOutputs s (takeSeat n s).1 := by
  refine Eff.andThen_outputs (enterSeated_outputs n s) fun t => ?_
  split
  · exact enterOff_outputs n _ t
  · exact .refl t

/-- A slot enters POWERING while no slot ramps (R147, R152). -/
theorem enterPowering_outputs (n : SlotId) {s : State} (h : ramping s = false) : KeepsOutputs s (enterPowering n s).1 :=
  changeSwap_outputs n _ _ (fun t => (modAccess_powerPart _ n _).trans
    ((modAdm_powerPart _ n _).trans (startTimer_powerPart n t.cfg.rampTimeout t))) (fun _ => h) nofun

theorem ramping_eq_false {s : State} : ramping s = false ↔ ∀ n : SlotId, s.swaps[n].state ≠ .powering := by
  simp [ramping]

/-- After a readmitted slot's way through SEATED still no slot ramps (R153). -/
theorem enterSeated_ramping (n : SlotId) {s : State} (h : ramping s = false) : ramping (enterSeated n s).1 = false := by
  have hown : ∀ t : State, (id t).powerPart = t.powerPart := fun _ => rfl
  rw [ramping_eq_false] at h ⊢
  intro m
  by_cases hm : n = m
  · subst hm
    rw [enterSeated, changeSwap_state n _ _ s _ hown]; exact nofun
  · have hpart := (congrFun (changeSwap_powerPart n .seated .noReason s .noReason hown) m).trans
      (switched_powerPart_ne n .seated .noReason s hm)
    rw [enterSeated, swapState_of_powerPart hpart]; exact h m

theorem ramping_of_admissible {s : State} {n : SlotId} (h : admissible s = some n) : ramping s = false := by
  unfold admissible at h
  split at h
  · split at h
    · rename_i hfit
      simp only [Bool.and_eq_true, Bool.not_eq_true'] at hfit
      exact hfit.2
    · cases h
  · cases h

/-- The admission unit admits while no slot ramps (R147, R152, R153). -/
theorem admitSlot_outputs {n : SlotId} {s : State} (h : admissible s = some n) : KeepsOutputs s (admitSlot n s).1 := by
  have hramp := ramping_of_admissible h
  unfold admitSlot; split
  · rw [Eff.andThen_fst]
    exact (enterSeated_outputs n s).trans (enterPowering_outputs n (enterSeated_ramping n hramp))
  · exact enterPowering_outputs n hramp

theorem takeRampEnd_outputs {n : SlotId} {s : State} (h : s.swaps[n].state = .powering) :
    KeepsOutputs s (takeRampEnd n s).1 :=
  changeSwap_outputs n _ _ (fun t => startTimer_powerPart n t.cfg.linkTimeout t) nofun fun _ =>
    ⟨nofun, fun hf => nomatch h.symm.trans hf⟩

/-- What entry to ACTIVE adds (R135, R143). -/
theorem activated_powerPart (n : SlotId) (b : Bool) (t : State) :
    (let s2 := t.modSwap n (endRealign (decide (t.links[n].state = .opened))); if b then s2 else attachSlot n s2).powerPart =
      t.powerPart := by
  have h := modSwap_powerPart t n (f := endRealign (decide (t.links[n].state = .opened))) rfl
  dsimp only; split
  · exact h
  · exact (attachSlot_powerPart n _).trans h

/-- A slot becomes ACTIVE from a state whose link is not fenced (R135, R137). -/
theorem takeActivate_outputs {n : SlotId} {s : State} (h : s.swaps[n].state ≠ .fenced) :
    KeepsOutputs s (takeActivate n s).1 :=
  changeSwap_outputs n _ _ (activated_powerPart n (live s n)) nofun fun _ => ⟨nofun, h⟩

theorem takeTurnOff_outputs (n : SlotId) (c : Reason) (s : State) : KeepsOutputs s (takeTurnOff n c s).1 := by
  refine Eff.andThen_outputs (enterOff_outputs n c s) fun t => ?_
  split
  · exact takeSeat_outputs n t
  · exact .refl t

theorem takePowerDown_outputs (n : SlotId) (s : State) : KeepsOutputs s (takePowerDown n s).1 := takeTurnOff_outputs n _ s

theorem fenceLink_swaps (n : SlotId) (s : State) : (fenceLink n s).swaps = s.swaps := by
  unfold fenceLink withdrawRead; split <;> rfl

theorem withdrawRead_links (n : SlotId) (s : State) : (withdrawRead n s).links = s.links := by
  unfold withdrawRead; split <;> rfl

theorem fenceLink_powerPart_ne {n m : SlotId} (h : n ≠ m) (s : State) : (fenceLink n s).powerPart m = s.powerPart m := by
  unfold State.powerPart
  rw [fenceLink_swaps, fenceLink, State.modLink_get_ne _ _ _ _ h, withdrawRead_links]

theorem fencePort_state {l : LinkPort} (h : l.state ≠ .off) : (fencePort l).state = .fenced := by
  unfold fencePort; rw [if_neg h]

/-- The link of a QUIESCING slot is fenced as the slot enters FENCED (R7, R138). -/
theorem enterFenced_outputs {n : SlotId} {s : State} (h : s.swaps[n].state = .quiescing) (r c : Reason) {own : State → State}
    (ho : ∀ t, (own t).powerPart = t.powerPart) : KeepsOutputs s (changeSwap n .fenced r c own (fenceLink n s)).1 := by
  intro hs
  obtain ⟨hslots, hramp⟩ := (outputsFollow_iff s).1 hs
  obtain ⟨-, hoff, -⟩ := (slotFollows_iff s n).1 (hslots n)
  have hon : s.links[n].state ≠ .off := fun hl => by have := hoff.1 hl; rw [h] at this; cases this
  have hport : (fenceLink n s).links[n].state = .fenced := by
    unfold fenceLink
    rw [State.modLink_get_self, withdrawRead_links]; exact fencePort_state hon
  refine changeSwap_follows n r c ho
    (fun m hm => State.SlotFollows.congr (fenceLink_powerPart_ne hm s) (hslots m)) ?_ nofun ?_ fun _ => ?_
  · unfold State.OneRamp; rw [fenceLink_swaps]; exact hramp
  · rw [hport, fenceLink_swaps, h]; exact ⟨nofun, nofun⟩
  · exact ⟨fun _ => rfl, fun _ => hport⟩

theorem takeFence_outputs {n : SlotId} {s : State} (h : s.swaps[n].state = .quiescing) :
    KeepsOutputs s (takeFence n s).1 := by
  unfold takeFence
  refine Eff.andThen_outputs ?_ fun t => ?_
  · exact enterFenced_outputs h _ _ fun t => startTimer_powerPart n t.cfg.powerDownDelay t
  · split
    · exact takePowerDown_outputs n t
    · exact .refl t

/-- ACTIVE goes to QUIESCING, and from there, with a drain timeout of 0, to FENCED (R136, R137). -/
theorem takeQuiesce_outputs {n : SlotId} (c : Reason) {s : State} (h : s.swaps[n].state = .active) :
    KeepsOutputs s (takeQuiesce n c s).1 := by
  have hown : ∀ t : State, (startTimer n t.cfg.drainTimeout t).powerPart = t.powerPart := fun t =>
    startTimer_powerPart n t.cfg.drainTimeout t
  have hquiesce : KeepsOutputs s (changeSwap n .quiescing c c (fun t => startTimer n t.cfg.drainTimeout t) s).1 :=
    changeSwap_outputs n c c hown nofun fun _ => ⟨nofun, fun hf => nomatch h.symm.trans hf⟩
  unfold takeQuiesce
  rw [Eff.andThen_fst]
  refine hquiesce.trans ?_
  split
  · exact takeFence_outputs (changeSwap_state n .quiescing c s c hown)
  · exact .refl _

theorem takeFaulted_outputs (n : SlotId) (c : Reason) (s : State) : KeepsOutputs s (takeFaulted n c s).1 :=
  changeSwap_unpowered n c c (fun t => (modSwap_powerPart _ n rfl).trans (clearDraw_powerPart n t)) rfl s

theorem takeLockOut_outputs (n : SlotId) (s : State) : KeepsOutputs s (takeLockOut n s).1 :=
  changeSwap_unpowered n _ _ (fun _ => rfl) rfl s

theorem takeUnseat_outputs (n : SlotId) (s : State) : KeepsOutputs s (takeUnseat n s).1 :=
  changeSwap_unpowered n _ _ (clearDraw_powerPart n) rfl s

theorem takeLinkOpen_outputs (n : SlotId) (s : State) : KeepsOutputs s (takeLinkOpen n s).1 := by
  unfold takeLinkOpen; split
  · rename_i h
    exact takeActivate_outputs fun hf => nomatch h.symm.trans hf
  · exact modSwap_outputs s n rfl
  · exact modSwap_outputs s n rfl
  · exact .refl s

theorem takeBackoff_outputs (n : SlotId) (s : State) : KeepsOutputs s (takeBackoff n s).1 := by
  unfold takeBackoff; split
  · exact takeSeat_outputs n s
  · exact takeLockOut_outputs n s

/-! ## The slot lines (R127, R128) -/

theorem presentActs_outputs (n : SlotId) (b : Bool) (s : State) : KeepsOutputs s (presentActs n b s).1 := by
  unfold presentActs; split_ifs
  · exact takeSeat_outputs n s
  · exact .refl s
  · exact .refl s
  · exact takeUnseat_outputs n s

theorem judgePresentLine_outputs (n : SlotId) (b : Bool) (s : State) : KeepsOutputs s (judgePresentLine n b s).1 := by
  have h : ∀ k j, KeepsOutputs s (s.modSwap n fun w => { w with present := k, presentCount := j }) :=
    fun k j => modSwap_outputs s n rfl
  unfold judgePresentLine; dsimp only; split
  · exact (h _ _).trans (presentActs_outputs n b _)
  · exact h _ _

theorem judgeFaultLine_outputs (n : SlotId) (b : Bool) (s : State) : KeepsOutputs s (judgeFaultLine n b s).1 := by
  unfold judgeFaultLine; split
  · exact takeFaulted_outputs n _ s
  · exact .refl s

theorem judgePgoodLine_outputs (n : SlotId) (b : Bool) (s : State) : KeepsOutputs s (judgePgoodLine n b s).1 := by
  refine (modSwap_outputs s n (f := countPgood b) rfl).trans ?_
  unfold judgePgoodLine pgoodActs; split_ifs with h
  · exact takeRampEnd_outputs h.1
  · exact takeFaulted_outputs n _ _
  · exact .refl _

theorem latchOpens_outputs (n : SlotId) (s : State) : KeepsOutputs s (latchOpens n s).1 := by
  unfold latchOpens; split
  · exact takeTurnOff_outputs n _ s
  · exact takeTurnOff_outputs n _ s
  · rename_i h; exact takeQuiesce_outputs _ h
  · dsimp only; exact modSwap_outputs s n rfl
  · exact .refl s

theorem latchCloses_outputs (n : SlotId) (s : State) : KeepsOutputs s (latchCloses n s).1 := by
  unfold latchCloses; split
  · rename_i h
    split
    · exact takeActivate_outputs fun hf => nomatch h.symm.trans hf
    · exact .refl s
  · split
    · exact takeSeat_outputs n s
    · exact .refl s
  · exact .refl s

theorem judgeLatchLine_outputs (n : SlotId) (b : Bool) (s : State) : KeepsOutputs s (judgeLatchLine n b s).1 := by
  have h : ∀ k j, KeepsOutputs s (s.modSwap n fun w => { w with latchClosed := k, latchCount := j }) :=
    fun k j => modSwap_outputs s n rfl
  unfold judgeLatchLine; dsimp only; split_ifs
  · exact (h _ _).trans (latchCloses_outputs n _)
  · exact (h _ _).trans (latchOpens_outputs n _)
  · exact h _ _

theorem sampleSlot_outputs (n : SlotId) (l : Lines) (s : State) : KeepsOutputs s (sampleSlot n l s).1 :=
  Eff.andThen_outputs (Eff.andThen_outputs (Eff.andThen_outputs
    ((modSwap_outputs s n rfl).trans (judgePresentLine_outputs n _ _)) (judgeFaultLine_outputs n _))
    (judgePgoodLine_outputs n _)) (judgeLatchLine_outputs n _)

/-! ## The slot commands and the policy (R130) -/

theorem takePowerOn_outputs (n : SlotId) (s : State) : KeepsOutputs s (takePowerOn n s).1 := by
  have h := modSwap_outputs s n (f := fun w => { w with powerRequest := true }) rfl
  unfold takePowerOn; dsimp only; split
  · exact h.trans (takeSeat_outputs n _)
  · exact h

theorem takeRemove_outputs (n : SlotId) (s : State) : KeepsOutputs s (takeRemove n s).1 := by
  have h := modSwap_outputs s n (f := fun w => { w with powerRequest := false }) rfl
  refine h.trans ?_
  unfold takeRemove; dsimp only; split
  · exact takeTurnOff_outputs n _ _
  · exact takeTurnOff_outputs n _ _
  · exact takeTurnOff_outputs n _ _
  · rename_i hstate
    refine takeQuiesce_outputs _ ?_
    rw [State.modSwap_get_self]; exact hstate
  · exact modSwap_outputs _ n rfl
  · exact modSwap_outputs _ n rfl
  · exact takeTurnOff_outputs n _ _
  · exact .refl _

theorem takeSlotCommand_outputs (n : SlotId) (w : Word) (s : State) : KeepsOutputs s (takeSlotCommand n w s).1 := by
  unfold takeSlotCommand; split
  · exact takePowerOn_outputs n s
  · exact takeRemove_outputs n s
  · unfold takeClearLockout; split
    · exact (modSwap_outputs s n rfl).trans (takeSeat_outputs n _)
    · exact .refl s
  · exact .refl s

theorem policyActs_outputs (n : SlotId) (old : Policy) (s : State) : KeepsOutputs s (policyActs n old s).1 := by
  unfold policyActs; split
  · split
    · exact takeTurnOff_outputs n _ s
    · exact takeTurnOff_outputs n _ s
    · exact takeTurnOff_outputs n _ s
    · rename_i h; exact takeQuiesce_outputs _ h
    · exact modSwap_outputs s n rfl
    · exact modSwap_outputs s n rfl
    · exact .refl s
  · split
    · exact takeSeat_outputs n s
    · exact .refl s

/-! ## The admission unit (chapter 9) and events -/

theorem markSheds_powerPart (k : Nat) (s : State) : (markSheds k s).1.powerPart = s.powerPart := by
  induction k generalizing s with
  | zero => rfl
  | succ k ih =>
    unfold markSheds; split
    · split
      · exact ih _
      · rfl
    · rfl

theorem takeShed_outputs (n : SlotId) (s : State) : KeepsOutputs s (takeShed n s).1 := by
  unfold takeShed; split
  · exact takeTurnOff_outputs n _ s
  · exact takeTurnOff_outputs n _ s
  · rename_i h; exact takeQuiesce_outputs _ h
  · dsimp only; exact modSwap_outputs s n rfl
  · exact .refl s

theorem formBudget_outputs (s : State) : KeepsOutputs s (formBudget s).1 :=
  (KeepsOutputs.same (markSheds_powerPart 12 s)).trans (foldEff_outputs takeShed_outputs _ _)

theorem tellShed_outputs {act : State → Eff} {s : State} (h : KeepsOutputs s (act s).1) :
    KeepsOutputs s (tellShed act s).1 := by
  unfold tellShed; dsimp only; split
  · exact h
  · exact Eff.andThen_outputs h fun t =>
      (.same rfl : KeepsOutputs t { t with onBattery := shedTriggered t }).trans (formBudget_outputs _)

/-- What a point's own act leaves alone, and the admission unit after it. -/
theorem tellShed_outputs_of_reportPart {act : State → Eff} {s : State} (h : (act s).1.reportPart = s.reportPart) :
    KeepsOutputs s (tellShed act s).1 := tellShed_outputs (.same (powerPart_of_reportPart h))

theorem takeInput_outputs (i : Input) (s : State) : KeepsOutputs s (takeInput i s).1 :=
  tellShed_outputs_of_reportPart (inputAct_reportPart i s)

/-- An event keeps what its own act keeps. -/
theorem outputs_event {act : State → Eff} {s : State} (h : KeepsOutputs s (act s).1) : KeepsOutputs s (event act s) := fun hs =>
  event_keeps State.OutputsFollow (fun i t => takeInput_outputs i t) (fun _ _ hn => admitSlot_outputs hn)
    (fun _ _ => KeepsOutputs.same rfl) act s (h hs)

end Sys2Proof.Machine
end

section
/-! SUPPORT. The other blocks' operations: links, queues, staging, memory port, timebase, environment, windows and the control
shadow. All but the opening of a link, a fence asked for and a region word leave swap states, outputs and link gates alone. -/

namespace Sys2Proof.Machine

open Sys2Proof

/-! ## Single fields that the part does not speak of -/

section Fields

variable (s : State)

theorem cfg_powerPart (c : Cfg) : State.powerPart { s with cfg := c } = s.powerPart := rfl

theorem time_powerPart (t : Timebase) : State.powerPart { s with time := t } = s.powerPart := rfl

theorem scan_powerPart (c : Scan) : State.powerPart { s with scan := c } = s.powerPart := rfl

theorem clock_powerPart (t : Timebase) (v : Vector Reference 2) (c : Scan) :
    State.powerPart { s with time := t, refs := v, scan := c } = s.powerPart := rfl

theorem port_powerPart (p : MemPort) : State.powerPart { s with port := p } = s.powerPart := rfl

theorem mem_powerPart (m : Memory) : State.powerPart { s with mem := m } = s.powerPart := rfl

theorem lists_powerPart (v : Vector NoticeList 12) : State.powerPart { s with lists := v } = s.powerPart := rfl

theorem staged_powerPart (l : List Staged) : State.powerPart { s with staged := l } = s.powerPart := rfl

theorem relays_powerPart (v : Vector Relay 4) : State.powerPart { s with relays := v } = s.powerPart := rfl

theorem modQueue_powerPart (q : QueueId) (f : Queue → Queue) : (s.modQueue q f).powerPart = s.powerPart := rfl

theorem modGroup_powerPart (g : GroupId) (f : Group → Group) : (s.modGroup g f).powerPart = s.powerPart := rfl

theorem modRef_powerPart (r : RefId) (f : Reference → Reference) : (s.modRef r f).powerPart = s.powerPart := rfl

theorem modList_powerPart (n : SlotId) (f : NoticeList → NoticeList) : (s.modList n f).powerPart = s.powerPart := rfl

theorem modChannel_powerPart (j : ChannelId) (f : Channel → Channel) : (s.modChannel j f).powerPart = s.powerPart := rfl

theorem setWaiting_powerPart (n : SlotId) (t : Option SlotTxn) : (s.setWaiting n t).powerPart = s.powerPart := rfl

end Fields

/-! ## Links (chapter 1) -/

theorem requestArrives_state (r : Request) (l : LinkPort) : (requestArrives r l).state = l.state := by
  unfold requestArrives; split
  · rfl
  · rfl
  · rfl
  · exact storeFrame_state _ r
  · rfl

theorem popFrame_state (l : LinkPort) : (popFrame l).state = l.state := markGo_state _

theorem acceptRead_state (e : ReadEntry) (l : LinkPort) : (acceptRead e l).state = l.state := markGo_state _

theorem missEcho_state (l : LinkPort) : (missEcho l).state = l.state := by unfold missEcho; dsimp only; split <;> rfl

theorem endWindow_state (k : Nat) (l : LinkPort) : (endWindow k l).state = l.state := by
  unfold endWindow; split_ifs <;> rfl

theorem beginGo_state (l : LinkPort) : (beginGo l).state = l.state := by unfold beginGo; split <;> rfl

theorem beginData_state (l : LinkPort) : (beginData l).state = l.state := by unfold beginData; split <;> rfl

/-- A link that goes on between states of which none is OFF or FENCED. -/
theorem gate_of_between {l l' : LinkPort} (h : l.state ≠ .off ∧ l.state ≠ .fenced)
    (h' : l'.state ≠ .off ∧ l'.state ≠ .fenced) : l'.gate = l.gate := by
  obtain ⟨hoff, hfenced⟩ := h
  obtain ⟨hoff', hfenced'⟩ := h'
  simp only [LinkPort.gate, hoff, hfenced, hoff', hfenced']

/-- An ALIGNING link stays so or goes to MEASURING (R4, R6). -/
theorem idleArrives_gate (l : LinkPort) : (idleArrives l).gate = l.gate := by
  unfold idleArrives; split
  · rfl
  · rename_i h
    have hl : l.state ≠ .off ∧ l.state ≠ .fenced := by rw [h]; exact ⟨nofun, nofun⟩
    split
    · rfl
    · exact gate_of_between hl ⟨nofun, nofun⟩
  · rfl
  · rfl
  · rfl

theorem requestArrives_powerPart (n : SlotId) (r : Request) (s : State) :
    (s.modLink n (requestArrives r)).powerPart = s.powerPart :=
  modLink_powerPart_of_state s n (requestArrives_state r _)

/-- A link loses alignment from MEASURING or OPEN (R5). -/
theorem loseAlignment_powerPart {n : SlotId} {s : State} (h : s.links[n].state ≠ .off ∧ s.links[n].state ≠ .fenced) :
    (loseAlignment n s).powerPart = s.powerPart := by
  have hport : ((withdrawRead n s).modLink n misalign).powerPart = s.powerPart := by
    refine (modLink_powerPart _ n ?_).trans (withdrawRead_powerPart n s)
    rw [withdrawRead_links]; exact gate_of_between h ⟨nofun, nofun⟩
  unfold loseAlignment; dsimp only; split
  · refine (modSwap_powerPart _ n ?_).trans hport
    unfold startRealign; split <;> rfl
  · exact hport

theorem failedFrame_powerPart (n : SlotId) (s : State) : (failedFrame n s).powerPart = s.powerPart := by
  have hcount : (s.modLink n countFailure).powerPart = s.powerPart := modLink_powerPart_of_state s n rfl
  unfold failedFrame; split
  · rfl
  · exact modLink_powerPart_of_state s n rfl
  · rfl
  · rename_i hoff _ hfenced
    dsimp only; split
    · refine (loseAlignment_powerPart ?_).trans hcount
      rw [State.modLink_get_self]; exact ⟨hoff, hfenced⟩
    · exact hcount

theorem voidEchoes_powerPart (s : State) : (voidEchoes s).powerPart = s.powerPart :=
  links_powerPart s fun n => by rw [ofFn_get]; rfl

/-- A reply that opens a link does so from MEASURING (R6). -/
theorem judgeReply_outputs (n : SlotId) (e : Echo) (k : Nat) (s : State) : KeepsOutputs s (judgeReply n e k s).1 := by
  unfold judgeReply; dsimp only; split_ifs with hvalid hm
  · have hopen : ∀ d, (s.modLink n (openLink d)).powerPart = s.powerPart := fun d =>
      modLink_powerPart s n (gate_of_between (by rw [hm]; exact ⟨nofun, nofun⟩) ⟨nofun, nofun⟩)
    exact Eff.andThen_outputs (.same (hopen _)) (takeLinkOpen_outputs n)
  · exact .same (modLink_powerPart_of_state s n rfl)
  · exact .same (modLink_powerPart_of_state s n (missEcho_state _))

theorem replyArrives_outputs (n : SlotId) (seq : BitVec 16) (k : Nat) (s : State) :
    KeepsOutputs s (replyArrives n seq k s).1 := by
  have hpassed : KeepsOutputs s (s.modLink n passedCheck) := .same (modLink_powerPart_of_state s n rfl)
  unfold replyArrives; split
  · exact .refl s
  · exact .same (modLink_powerPart_of_state s n rfl)
  · exact .refl s
  · dsimp only; split
    · split
      · exact hpassed.trans (judgeReply_outputs n _ k _)
      · exact hpassed
    · exact hpassed

theorem beginNotice_powerPart (n : SlotId) (s : State) : (beginNotice n s).powerPart = s.powerPart := by
  unfold beginNotice; split
  · exact (modLink_powerPart_of_state _ n rfl).trans (modList_powerPart s n _)
  · rfl

theorem popFrame_powerPart (n : SlotId) (s : State) : (s.modLink n popFrame).powerPart = s.powerPart :=
  modLink_powerPart_of_state s n (popFrame_state _)

/-- A READY_TO_FENCE acts in QUIESCING alone (R137). -/
theorem handFence_outputs (n : SlotId) (s : State) : KeepsOutputs s (handFence n s).1 := by
  have hpop : KeepsOutputs s (s.modLink n popFrame) := .same (popFrame_powerPart n s)
  unfold handFence; split
  · rename_i h; exact hpop.trans (takeFence_outputs h)
  · exact hpop

/-! ## Queues (chapter 3) -/

theorem withdrawZeroing_powerPart (q : QueueId) (s : State) : (withdrawZeroing q s).powerPart = s.powerPart := by
  unfold withdrawZeroing; split <;> rfl

theorem takeOpen_powerPart (q : QueueId) (s : State) : (takeOpen q s).powerPart = s.powerPart := by
  unfold takeOpen; dsimp only; split_ifs <;> rfl

theorem takeClose_powerPart (q : QueueId) (s : State) : (takeClose q s).powerPart = s.powerPart := by
  unfold takeClose; split
  · rfl
  · exact (lists_powerPart _ _).trans ((withdrawZeroing_powerPart q _).trans (modQueue_powerPart s q _))

theorem offerZeroing_powerPart (s : State) : (offerZeroing s).powerPart = s.powerPart := by
  unfold offerZeroing; split
  · rfl
  · split
    · exact (port_powerPart _ _).trans (modQueue_powerPart s _ _)
    · rfl

theorem judgeIndex_powerPart (n : SlotId) (q : QueueId) (b : Bool) (new : Nat) (s : State) :
    (judgeIndex n q b new s).eff.1.powerPart = s.powerPart := by
  have hproducer : (producerAdvance q new s).1.powerPart = s.powerPart := by
    unfold producerAdvance; dsimp only; split_ifs
    · exact (queueNotice_powerPart _ _ _ _).trans (modQueue_powerPart s q _)
    · exact modQueue_powerPart s q _
  have hconsumer : (consumerAdvance q new s).1.powerPart = s.powerPart := by
    unfold consumerAdvance; dsimp only; split
    · exact (queueNotice_powerPart _ _ _ _).trans (modQueue_powerPart s q _)
    · exact modQueue_powerPart s q _
  have hoverrun : (producerOverrun q s).1.powerPart = s.powerPart :=
    (queueNotice_powerPart _ _ _ _).trans (modQueue_powerPart s q _)
  unfold judgeIndex; dsimp only; split_ifs
  · rfl
  · rfl
  · rfl
  · exact hproducer
  · exact hoverrun
  · rfl
  · rfl
  · exact hconsumer
  · rfl

theorem completeZeroing_powerPart (q : QueueId) (base : Nat) (s : State) :
    (completeZeroing q base s).1.powerPart = s.powerPart := by
  have hready : ∀ t : State, (readyNotices q t).1.powerPart = t.powerPart := fun t => by
    unfold readyNotices; dsimp only; split
    · exact queueNotice_powerPart _ _ _ t
    · exact Eff.andThen_keeps State.powerPart (queueNotice_powerPart _ _ _ t) (queueNotice_powerPart _ _ _)
  have hfree : ∀ m : Memory, State.powerPart { freePort s with mem := m } = s.powerPart := fun _ => rfl
  unfold completeZeroing zeroed; split
  · exact (hready _).trans ((modQueue_powerPart _ q _).trans (hfree _))
  · exact hfree _

/-! ## Staging (chapter 5) -/

theorem takeStagingWord_powerPart (n : SlotId) (s : State) (k : StagingWord) :
    (takeStagingWord n s k).powerPart = s.powerPart := by
  cases k with
  | staged g a d be =>
    unfold takeStagingWord takeStaged; dsimp only; split_ifs
    · rfl
    · exact staged_powerPart s _
    · exact (modGroup_powerPart _ g _).trans (staged_powerPart s _)
    · exact modGroup_powerPart s g _
  | arm g d be =>
    unfold takeStagingWord takeArmWord; dsimp only; split
    · split
      · exact modGroup_powerPart s g _
      · exact modGroup_powerPart s g _
      · exact (modGroup_powerPart _ g _).trans (staged_powerPart s _)
      · rfl
    · rfl

theorem handStaging_powerPart (n : SlotId) : ∀ (ks : List StagingWord) (s : State),
    (handStaging n ks s).powerPart = s.powerPart
  | [], _ => rfl
  | k :: rest, s => (handStaging_powerPart n rest _).trans (takeStagingWord_powerPart n s k)

theorem judgeHolds_powerPart (s : State) : (judgeHolds s).powerPart = s.powerPart := port_powerPart s _

theorem takeDue_powerPart (g : GroupId) (s : State) : (takeDue g s).1.powerPart = s.powerPart := by
  have hrounds : ∀ l : List GroupId, State.powerPart { s with rounds := l } = s.powerPart := fun _ => rfl
  unfold takeDue; dsimp only; split
  · exact (handCommitDone_powerPart g _ _ _).trans ((modGroup_powerPart _ g _).trans (staged_powerPart s _))
  · exact (modGroup_powerPart _ g _).trans (hrounds _)

theorem tickGroups_powerPart (disc : Bool) (s : State) : (tickGroups disc s).1.powerPart = s.powerPart := by
  unfold tickGroups; split
  · refine foldEff_keeps State.powerPart (fun g t => ?_) _ s
    split
    · exact (handCommitDone_powerPart g _ _ _).trans (modGroup_powerPart t g _)
    · rfl
  · refine (judgeHolds_powerPart _).trans (foldEff_keeps State.powerPart (fun g t => ?_) _ s)
    split
    · exact takeDue_powerPart g t
    · rfl

/-- A WARM_RESET empties the ports and leaves their link states (R18, R194). -/
theorem carryOutWarm_powerPart (s : State) : (carryOutWarm s).powerPart = s.powerPart := by
  have hlinks : State.powerPart { s with links := Vector.ofFn fun n => warmPort s.links[n] } = s.powerPart :=
    links_powerPart s fun n => by
      rw [ofFn_get]; unfold LinkPort.gate; rw [warmPort, markGo_state]; rfl
  have hports : (warmLinks s).powerPart = s.powerPart :=
    (port_powerPart { s with links := Vector.ofFn fun n => warmPort s.links[n] } _).trans hlinks
  have hqueues : ∀ (t : State) (v : Vector Queue 64) (p : MemPort),
      State.powerPart { t with queues := v, port := p } = t.powerPart := fun _ _ _ => rfl
  have hstaging : ∀ t : State, (warmStaging (emptyLists t)).powerPart = t.powerPart := fun _ => rfl
  have hrest : ∀ (t : State) (l : Vector Latch 12) (m : Vector Marks 12),
      State.powerPart { t with latches := l, marks := m, warmPending := false } = t.powerPart := fun _ _ _ => rfl
  exact (hrest _ _ _).trans ((hstaging _).trans ((hqueues (warmLinks s) _ _).trans hports))

theorem takeWarm_powerPart (s : State) : (takeWarm s).powerPart = s.powerPart := by
  unfold takeWarm; split
  · rfl
  · exact carryOutWarm_powerPart s

theorem warmIfDue_powerPart (s : State) : (warmIfDue s).powerPart = s.powerPart := by
  unfold warmIfDue; split
  · exact carryOutWarm_powerPart s
  · rfl

theorem serveRound_powerPart (g : GroupId) (s : State) : (serveRound g s).1.powerPart = s.powerPart := by
  have hround : ∀ (l : List Staged) (rs : List GroupId),
      State.powerPart { s with staged := l, rounds := rs, serving := false } = s.powerPart := fun _ _ => rfl
  have hclose : (closeRound g s).1.powerPart = s.powerPart :=
    (handCommitDone_powerPart g _ _ _).trans ((modGroup_powerPart _ g _).trans (hround _ _))
  have hserving : ∀ p : MemPort, State.powerPart { s with serving := true, port := p } = s.powerPart := fun _ => rfl
  unfold serveRound; split
  · exact Eff.andThen_keeps State.powerPart hclose fun t => (warmIfDue_powerPart _).trans (judgeHolds_powerPart t)
  · exact hserving _

/-! ## The memory port (section 2.6) -/

theorem takeGrant_powerPart (s : State) : (takeGrant s).powerPart = s.powerPart := by
  unfold takeGrant; split
  · rfl
  · split
    · exact port_powerPart s _
    · exact port_powerPart s _
    · exact port_powerPart s _
    · exact (handStaging_powerPart _ _ _).trans (port_powerPart s _)
    · rfl

theorem completeRead_powerPart (n : SlotId) (id : Nat) (as : List Nat) (s : State) :
    (completeRead n id as s).powerPart = s.powerPart :=
  (modLink_powerPart_of_state _ n rfl).trans (port_powerPart s _)

theorem completeWrite_powerPart (ws : List WriteWord) (s : State) : (completeWrite ws s).powerPart = s.powerPart :=
  (mem_powerPart _ _).trans (port_powerPart s _)

theorem completeLog_powerPart (ws : List WriteWord) (s : State) : (completeLog ws s).powerPart = s.powerPart := by
  have h : ∀ (p : MemPort) (m : Memory) (l : LogWriter),
      State.powerPart { s with port := p, mem := m, log := l } = s.powerPart := fun _ _ _ => rfl
  exact h _ _ _

theorem completeCommit_powerPart (ws : List WriteWord) (s : State) : (completeCommit ws s).1.powerPart = s.powerPart := by
  have hwrite := completeWrite_powerPart ws s
  unfold completeCommit; dsimp only; split
  · exact (serveRound_powerPart _ _).trans ((staged_powerPart _ _).trans hwrite)
  · exact hwrite

theorem completeStartUp_powerPart (k : Nat) (s : State) : (completeStartUp k s).powerPart = s.powerPart := by
  have h : ∀ (m : Memory) (x : Option Nat), State.powerPart { s with mem := m, startUp := x } = s.powerPart := fun _ _ => rfl
  exact h _ _

/-! ## The timebase (chapters 6 and 7) -/

theorem chooseActive_powerPart (s : State) : (chooseActive s).1.powerPart = s.powerPart := by
  unfold chooseActive; dsimp only; split
  · split
    · rfl
    · exact (modRef_powerPart _ _ _).trans (time_powerPart s _)
  · exact time_powerPart s _
  · exact time_powerPart s _

theorem takeRefConfig_powerPart (r : RefId) (e : Bool) (p : Nat) (s : State) :
    (takeRefConfig r e p s).1.powerPart = s.powerPart := by
  unfold takeRefConfig; dsimp only
  refine (chooseActive_powerPart _).trans ?_
  split
  · exact (modRef_powerPart _ r _).trans (cfg_powerPart s _)
  · exact cfg_powerPart s _

theorem adjustTime_powerPart (x : Int) (s : State) : (adjustTime x s).powerPart = s.powerPart :=
  (voidEchoes_powerPart _).trans (clock_powerPart s _ _ s.scan)

theorem acquireAct_powerPart (e : Int) (s : State) : (acquireAct e s).powerPart = s.powerPart := by
  unfold acquireAct; split
  · exact (time_powerPart _ _).trans (adjustTime_powerPart _ s)
  · exact time_powerPart s _

theorem loopAct_powerPart (r : RefId) (cap : Stamp) (s : State) : (loopAct r cap s).powerPart = s.powerPart := by
  have hlocked : ∀ (e : Int) (t : State), (lockedAct e t).powerPart = t.powerPart := fun e t => by
    unfold lockedAct; split_ifs <;> exact time_powerPart t _
  unfold loopAct; dsimp only; split
  · exact (hlocked _ _).trans (time_powerPart s _)
  · exact (acquireAct_powerPart _ _).trans (time_powerPart s _)
  · exact (acquireAct_powerPart _ _).trans (time_powerPart s _)
  · exact (acquireAct_powerPart _ _).trans (time_powerPart s _)

theorem pulseActs_powerPart (r : RefId) (cap : Stamp) (b : Option RefId) (s : State) :
    (pulseActs r cap b s).powerPart = s.powerPart := by
  unfold pulseActs; split
  · exact (time_powerPart _ _).trans (adjustTime_powerPart _ s)
  · split
    · exact loopAct_powerPart r cap s
    · rfl

theorem takeTick_powerPart (disc : Bool) (order : TickOrder) (s : State) : (takeTick disc order s).1.powerPart = s.powerPart := by
  have hframe : ∀ f, State.powerPart { s with frame := f } = s.powerPart := fun _ => rfl
  have hnotices : ∀ t, (handFrames disc t).1.powerPart = t.powerPart := fun t => handAll_powerPart _ _ _ t
  unfold takeTick; dsimp only; split
  · rfl
  · split
    · exact (Eff.andThen_keeps State.powerPart (tickGroups_powerPart disc _) hnotices).trans (hframe _)
    · exact (Eff.andThen_keeps State.powerPart (hnotices _) (tickGroups_powerPart disc)).trans (hframe _)

theorem takePulse_powerPart (r : RefId) (order : TickOrder) (s : State) : (takePulse r order s).1.powerPart = s.powerPart := by
  have hjudge : ∀ (cap : Stamp) (t : State), (judgePulse r cap order t).1.powerPart = t.powerPart := fun cap t => by
    unfold judgePulse; dsimp only; split
    · exact (takeTick_powerPart true order _).trans ((pulseActs_powerPart r cap _ _).trans
        ((chooseActive_powerPart _).trans (modRef_powerPart t r _)))
    · exact modRef_powerPart t r _
  unfold takePulse; split
  · split
    · exact (hjudge _ _).trans (modRef_powerPart s r _)
    · rfl
  · rfl

theorem lineEdge_powerPart (r : RefId) (b : Bool) (s : State) : (lineEdge r b s).powerPart = s.powerPart :=
  modRef_powerPart s r _

theorem takeMiss_powerPart (r : RefId) (s : State) : (takeMiss r s).1.powerPart = s.powerPart := by
  unfold takeMiss; split
  · exact (chooseActive_powerPart _).trans (modRef_powerPart s r _)
  · exact modRef_powerPart s r _

theorem takeHoldSecond_powerPart (s : State) : (takeHoldSecond s).1.powerPart = s.powerPart := by
  unfold takeHoldSecond; dsimp only; split <;> exact time_powerPart s _

/-- A tick of the millisecond divider moves timers alone (R94). -/
theorem millisecond_powerPart (s : State) : (millisecond s).powerPart = s.powerPart := by
  funext n
  show ((Vector.ofFn fun m : SlotId => tickSwap s.swaps[m])[n].outputs,
    (Vector.ofFn fun m : SlotId => tickLink s.links[m])[n].gate) = _
  rw [ofFn_get, ofFn_get]; rfl

theorem takePeriod_powerPart (order : TickOrder) (s : State) : (takePeriod order s).1.powerPart = s.powerPart := by
  have hcount : ∀ t : State, (countPeriod t).powerPart = t.powerPart := fun t => by
    unfold countPeriod; split
    · exact (millisecond_powerPart _).trans (time_powerPart t _)
    · exact time_powerPart t _
  exact (takeTick_powerPart false order _).trans ((hcount _).trans (clock_powerPart s _ _ _))

/-! ## The environment (chapter 11) -/

theorem startPass_powerPart (s : State) : (startPass s).powerPart = s.powerPart := by
  unfold startPass; split <;> exact scan_powerPart s _

theorem nextChannel_powerPart (j : ChannelId) (s : State) : (nextChannel j s).powerPart = s.powerPart := by
  unfold nextChannel; split
  · exact scan_powerPart s _
  · unfold endPass; split
    · exact (startPass_powerPart _).trans (scan_powerPart s _)
    · exact scan_powerPart s _

theorem takeScanNow_powerPart (s : State) : (takeScanNow s).powerPart = s.powerPart := by
  unfold takeScanNow; split
  · exact scan_powerPart s _
  · exact startPass_powerPart s

theorem takeInterval_powerPart (s : State) : (takeInterval s).powerPart = s.powerPart := by
  unfold takeInterval; dsimp only; split
  · exact scan_powerPart s _
  · exact (startPass_powerPart _).trans (scan_powerPart s _)

theorem takeResult_powerPart (j : ChannelId) (r : Nat) (s : State) : (takeResult j r s).1.powerPart = s.powerPart :=
  (nextChannel_powerPart j _).trans (modChannel_powerPart s j _)

theorem takeChannelConfig_powerPart (j : ChannelId) (new : ChannelCfg) (s : State) :
    (takeChannelConfig j new s).1.powerPart = s.powerPart := by
  have hnext := (nextChannel_powerPart j { s with cfg := { s.cfg with channels := s.cfg.channels.set j new } }).trans
    (cfg_powerPart s _)
  unfold takeChannelConfig; dsimp only; split_ifs
  · exact (modChannel_powerPart _ j _).trans hnext
  · exact (modChannel_powerPart _ j _).trans (cfg_powerPart s _)
  · exact hnext
  · exact cfg_powerPart s _

/-! ## Windows (chapter 2) -/

theorem recordFault_powerPart (n : SlotId) (a : Word) (k : AccessKind) (s : State) :
    (recordFault n a k s).1.powerPart = s.powerPart := modAccess_powerPart s n _

theorem recordWorst_powerPart (n : SlotId) (ps : List Placed) (s : State) : (recordWorst n ps s).1.powerPart = s.powerPart := by
  unfold recordWorst; split
  · exact recordFault_powerPart n _ _ s
  · rfl

theorem appendWord_powerPart (n : SlotId) (w : WriteWord) (s : State) : (appendWord n w s).powerPart = s.powerPart := by
  unfold appendWord; split <;> exact setWaiting_powerPart s n _

theorem keepOrHand_powerPart (n : SlotId) (ks : List StagingWord) (s : State) :
    (keepOrHand n ks s).powerPart = s.powerPart := by
  unfold keepOrHand; split
  · exact setWaiting_powerPart s n _
  · exact handStaging_powerPart n ks s

theorem takeRead_powerPart (n : SlotId) (tag : Byte) (addr : Word) (count : Nat) (s : State) :
    (takeRead n tag addr count s).1.powerPart = s.powerPart := by
  have hlatch : ∀ b : Bool, (if b then takeLatch n s else s).powerPart = s.powerPart := fun b => by cases b <;> rfl
  have hmarks : ∀ (ks : List Nat) (t : State), (takeMarks n ks t).powerPart = t.powerPart := fun _ _ => rfl
  unfold takeRead; dsimp only
  refine (recordWorst_powerPart n _ _).trans ((setWaiting_powerPart _ n _).trans ((hmarks _ _).trans ?_))
  exact (modLink_powerPart_of_state _ n (acceptRead_state _ _)).trans (hlatch _)

/-! ## The control shadow (chapter 13) -/

theorem takeQueueWord_powerPart (q : QueueId) (k : Nat) (be : Mask) (w : Word) (s : State) :
    (takeQueueWord q k be w s).powerPart = s.powerPart := by
  unfold takeQueueWord; split_ifs
  · split
    · exact takeOpen_powerPart q s
    · exact takeClose_powerPart q s
    · rfl
  · exact cfg_powerPart s _
  · rfl

theorem takeGroupWord_powerPart (g : GroupId) (k : Nat) (w : Word) (s : State) :
    (takeGroupWord g k w s).powerPart = s.powerPart := by
  unfold takeGroupWord; dsimp only; split
  · rfl
  · exact cfg_powerPart s _

theorem takeLogBase_powerPart (w : Word) (s : State) : (takeLogBase w s).powerPart = s.powerPart := by
  unfold takeLogBase; dsimp only; split <;> rfl

theorem takeLogCode_powerPart (w : Word) (s : State) : (takeLogCode w s).powerPart = s.powerPart := by
  unfold takeLogCode; dsimp only; split_ifs <;> rfl

theorem takeLogRead_powerPart (w : Word) (s : State) : (takeLogRead w s).powerPart = s.powerPart := by
  unfold takeLogRead; split <;> rfl

theorem forceRelays_powerPart (mask : Nat) (f : Force) (s : State) : (forceRelays mask f s).powerPart = s.powerPart :=
  (relays_powerPart _ _).trans (relays_powerPart s _)

theorem takeRelayConfig_powerPart (k : RelayId) (w : Word) (s : State) : (takeRelayConfig k w s).powerPart = s.powerPart :=
  (relays_powerPart _ _).trans (cfg_powerPart s _)

theorem takeSlotWord_outputs (n : SlotId) (k : Nat) (be : Mask) (w : Word) (s : State) :
    KeepsOutputs s (takeSlotWord n k be w s).1 := by
  have hcfg : ∀ c, KeepsOutputs s { s with cfg := c } := fun c => .same (cfg_powerPart s c)
  unfold takeSlotWord; dsimp only; split
  · split
    · exact (hcfg _).trans (policyActs_outputs n _ _)
    · exact hcfg _
  · exact hcfg _
  · exact takeSlotCommand_outputs n w s
  · exact .refl s

theorem takePointWord_outputs (p : PointId) (k : Nat) (w : Word) (s : State) : KeepsOutputs s (takePointWord p k w s).1 := by
  have hcfg : (setPointCfg p k w s).powerPart = s.powerPart := cfg_powerPart s _
  unfold takePointWord; split
  · refine tellShed_outputs (.same ?_)
    exact (relays_powerPart _ _).trans ((powerPart_of_reportPart (pointActs_reportPart p _ _ _)).trans hcfg)
  · exact .same hcfg

theorem takeAckWord_outputs (w : Word) (s : State) : KeepsOutputs s (takeAckWord w s).1 :=
  foldEff_outputs (fun p t => tellShed_outputs_of_reportPart (ackPoint_reportPart p t)) _ s

/-- Of the global record's words, a point's ACK and the budgets alone can reach the slots (R155, R164). -/
theorem takeGlobalWord_outputs (k : Nat) (w : Word) (s : State) : KeepsOutputs s (takeGlobalWord k w s).1 := by
  unfold takeGlobalWord; split
  · dsimp only; split
    · exact .same (takeWarm_powerPart s)
    · exact .refl s
  · exact takeAckWord_outputs w s
  · dsimp only; split
    · exact .same (takeScanNow_powerPart s)
    · exact .refl s
  · dsimp only; split
    · exact .same (time_powerPart s _)
    · exact .refl s
  · exact .same (forceRelays_powerPart _ _ s)
  · exact .same (forceRelays_powerPart _ _ s)
  · exact .same (forceRelays_powerPart _ _ s)
  · exact (KeepsOutputs.same (cfg_powerPart s _)).trans (formBudget_outputs _)
  · exact .same (takeRefConfig_powerPart 0 _ _ s)
  · exact .same (takeRefConfig_powerPart 1 _ _ s)
  · exact .same (cfg_powerPart s _)
  · exact .same (takeLogBase_powerPart w s)
  · exact .same (takeLogCode_powerPart w s)
  · exact .same (takeLogRead_powerPart w s)
  · split_ifs
    · exact .same (takeChannelConfig_powerPart _ _ s)
    · exact .same (takeRelayConfig_powerPart _ w s)
    · exact .same (cfg_powerPart s _)

/-- A region word taken, whatever its record (R191). -/
theorem takeRegion_outputs (idx : RegionIdx) (d : Word) (be : Mask) (s : State) :
    KeepsOutputs s (takeRegion idx d be s).1 := by
  unfold takeRegion takeFormed; split
  · exact takeGlobalWord_outputs _ _ s
  · exact takeSlotWord_outputs _ _ _ _ s
  · exact .same (cfg_powerPart s _)
  · exact .same (takeQueueWord_powerPart _ _ _ _ s)
  · exact .same (takeGroupWord_powerPart _ _ _ s)
  · exact takePointWord_outputs _ _ _ s
  · exact .refl s

/-! ## The words of a WRITE (R27) -/

theorem showRegion_outputs (n : SlotId) (sa : Word) (a : Nat) (d : Word) (be : Mask) (f : Bool) (s : State) :
    KeepsOutputs s (showRegion n sa a d be f s).1 := by
  unfold showRegion; split_ifs
  · exact .refl s
  · exact .same (recordFault_powerPart n sa _ s)
  · exact Eff.andThen_outputs (takeRegion_outputs _ d be s) fun t => .same (appendWord_powerPart n _ t)

theorem showIndex_powerPart (n : SlotId) (sa : Word) (a : Nat) (q : QueueId) (b : Bool) (d : Word) (be : Mask) (s : State) :
    (showIndex n sa a q b d be s).1.powerPart = s.powerPart := by
  have happend : ∀ (c : Bool) (w : WriteWord) (t : State), (if c then appendWord n w t else t).powerPart = t.powerPart :=
    fun c w t => by
      cases c
      · rfl
      · exact appendWord_powerPart n w t
  unfold showIndex; dsimp only
  refine Eff.andThen_keeps State.powerPart (judgeIndex_powerPart n q b _ s) fun t => ?_
  split
  · exact (recordFault_powerPart n sa _ _).trans (happend _ _ t)
  · exact happend _ _ t

theorem showWord_outputs (n : SlotId) (sa : Word) (a : Nat) (d : Word) (be : Mask) (f : Bool) (s : State) :
    KeepsOutputs s (showWord n sa a d be f s).1 := by
  unfold showWord; split
  · exact showRegion_outputs n sa a d be f s
  · split
    · exact .same (showIndex_powerPart n sa a _ _ d be s)
    · exact .same (appendWord_powerPart n _ s)

theorem showWords_outputs (n : SlotId) : ∀ (rs : List Routed) (f : Bool) (s : State),
    KeepsOutputs s (showWords n rs f s).1
  | [], _, s => .refl s
  | .mem sa a d be :: rest, f, s => Eff.andThen_outputs (showWord_outputs n sa a d be f s) (showWords_outputs n rest _)
  | .staging _ :: rest, f, s => showWords_outputs n rest f s

theorem takeWrite_outputs (n : SlotId) (addr : Word) (first last : Mask) (data : List Word) (s : State) :
    KeepsOutputs s (takeWrite n addr first last data s).1 :=
  Eff.andThen_outputs (.same (recordWorst_powerPart n _ s)) fun t =>
    Eff.andThen_outputs (showWords_outputs n _ false t) fun u => .same (keepOrHand_powerPart n _ u)

end Sys2Proof.Machine
end

section
/-! PROOF. Every command, and so every step, keeps the outputs and links following the swap states and at most one slot in
POWERING. -/

namespace Sys2Proof.Machine

open Sys2Proof

/-! ## Commands that are taken only where a condition holds -/

theorem outputs_if {p : Prop} [Decidable p] {s t : State} (h : p → KeepsOutputs s t) :
    KeepsOutputs s (if p then t else s) := by
  split
  · exact h ‹p›
  · exact .refl s

theorem outputs_event_if {p : Prop} [Decidable p] {act : State → Eff} {s : State} (h : p → KeepsOutputs s (act s).1) :
    KeepsOutputs s (if p then event act s else s) := outputs_if fun hp => outputs_event (h hp)

/-- A command that answers a state it keeps the invariant to. -/
theorem outputs_of_next {s u t : State} (hu : KeepsOutputs s u) (h : (.next u : Out) = .next t) : KeepsOutputs s t := by
  cases h; exact hu

theorem state_of_timerDue {s : State} {n : SlotId} {st : SwapState} (h : stateTimerDue s n st = true) :
    s.swaps[n].state = st := by
  simp only [stateTimerDue, Bool.and_eq_true, decide_eq_true_eq] at h
  exact h.1

/-! ## READs and WRITEs taken -/

theorem takeHeadRead_outputs (n : SlotId) (s : State) : KeepsOutputs s (takeHeadRead n s) := by
  unfold takeHeadRead; split
  · exact outputs_event (.same (takeRead_powerPart n _ _ _ s))
  · exact .refl s

theorem takeHeadWrite_outputs (n : SlotId) (s : State) : KeepsOutputs s (takeHeadWrite n s) := by
  unfold takeHeadWrite; split
  · exact (KeepsOutputs.same (popFrame_powerPart n s)).trans (outputs_event (takeWrite_outputs n _ _ _ _ _))
  · exact .refl s

theorem sendWrite_outputs (o : Origin) (d : Word) (be : Mask) (s : State) : KeepsOutputs s (sendWrite o d be s) :=
  (KeepsOutputs.same (requestArrives_powerPart o.slot _ s)).trans (takeHeadWrite_outputs o.slot _)

theorem armWrite_outputs (o : Origin) (g : GroupId) (d : Word) (be : Mask) (s : State) :
    KeepsOutputs s (armWrite o g d be s) := outputs_if fun _ => sendWrite_outputs o d be s

theorem regionWrite_outputs (o : Origin) (idx : RegionIdx) (d : Word) (be : Mask) (s : State) :
    KeepsOutputs s (regionWrite o idx d be s) := outputs_if fun _ => sendWrite_outputs o d be s

theorem wordWrite_outputs (o : Origin) (idx : RegionIdx) (d : Word) (s : State) : KeepsOutputs s (wordWrite o idx d s) :=
  regionWrite_outputs o idx d _ s

theorem fieldWrite_outputs (o : Origin) (idx : RegionIdx) (lo len v : Nat) (s : State) :
    KeepsOutputs s (fieldWrite o idx lo len v s) := wordWrite_outputs o idx _ s

theorem slotFieldWrite_outputs (o : Origin) (n : SlotId) (lo len v : Nat) (be : Mask) (s : State) :
    KeepsOutputs s (slotFieldWrite o n lo len v be s) := regionWrite_outputs o _ _ be s

/-! ## Every command -/

theorem cold_outputsFollow (x : Straps) (m : Memory) (p : List Instr) : (State.cold x m p).OutputsFollow := by
  have hswap : ∀ n : SlotId, (State.cold x m p).swaps[n] = Swap.cold := fun n => Vector.getElem_replicate _
  have hlink : ∀ n : SlotId, (State.cold x m p).links[n] = LinkPort.cold := fun n => Vector.getElem_replicate _
  refine ⟨fun n => ?_, fun a b ha => ?_, fun n => ?_⟩
  · rw [hswap]; exact ⟨rfl, rfl, rfl⟩
  · rw [hswap] at ha; cases ha
  · rw [hswap, hlink]; exact ⟨⟨fun _ => rfl, fun _ => rfl⟩, ⟨nofun, nofun⟩⟩

theorem exec_outputs {c : Instr} {s t : State} (h : exec c s = .next t) : KeepsOutputs s t := by
  cases c with
  | coldReset x => cases h; exact fun _ => cold_outputsFollow x _ _
  -- writes of one word of the control region or of an arm word
  | warmReset | secondsLoad | openQueue | closeQueue | powerOn | removeSlot | clearLockout | ackPoint | ackAll | relayOn
  | relayOff | relayFollow | relayConfigWrite | scanNow | channelConfigWrite | logReadIndexWrite | windowRecordWrite =>
    exact outputs_of_next (wordWrite_outputs _ _ _ s) h
  | referenceEnableWrite | referencePriorityWrite | pointEnableWrite | pointLatchedWrite | pointSeverityWrite
  | pointRelayMarksWrite | pointShedTriggerWrite | senseModeWrite =>
    exact outputs_of_next (fieldWrite_outputs _ _ _ _ _ s) h
  | slotPolicyWrite | slotDrawWrite | shedPriorityWrite | controlRightWrite =>
    exact outputs_of_next (slotFieldWrite_outputs _ _ _ _ _ _ s) h
  | controlRegionWrite o idx data enables => exact outputs_of_next (regionWrite_outputs o idx data enables s) h
  | queueDescriptorWrite o q field =>
    refine outputs_of_next ?_ h
    cases field with
    | base => exact wordWrite_outputs o _ _ s
    | cellSize | cellCount | producer | consumer => exact fieldWrite_outputs o _ _ _ _ s
    | high | low => exact regionWrite_outputs o _ _ _ s
  | groupConfigWrite o g field =>
    refine outputs_of_next ?_ h
    cases field with
    | base => exact wordWrite_outputs o _ _ s
    | valid | size => exact fieldWrite_outputs o _ _ _ _ s
  | budgetWrite o field =>
    refine outputs_of_next ?_ h
    cases field <;> exact fieldWrite_outputs o _ _ _ _ s
  | logConfigWrite o field =>
    refine outputs_of_next ?_ h
    cases field <;> exact wordWrite_outputs o _ _ s
  | armGroup | disarmGroup | discardGroup => exact outputs_of_next (armWrite_outputs _ _ _ _ s) h
  | armWordIgnored o g data enables => exact outputs_of_next (outputs_if fun _ => armWrite_outputs o g data enables s) h
  -- resets, start-up and time
  | coldStartUpWriteComplete =>
    revert h; show execColdStartUpWriteComplete s = _ → _
    unfold execColdStartUpWriteComplete; split
    · exact outputs_of_next (outputs_event (.same (completeStartUp_powerPart _ s)))
    · exact outputs_of_next (.refl s)
  | warmResetCarriedOut => exact outputs_of_next (.same (warmIfDue_powerPart s)) h
  | localOscillatorPeriod order => exact outputs_of_next (outputs_event (.same (takePeriod_powerPart order s))) h
  | continuousFrameTick order => exact outputs_of_next (outputs_event_if fun _ => .same (takePeriod_powerPart order s)) h
  | pulseEvent r order => exact outputs_of_next (outputs_event (.same (takePulse_powerPart r order s))) h
  | missTimerExpiry r => exact outputs_of_next (outputs_event_if fun _ => .same (takeMiss_powerPart r s)) h
  | holdoverTimerExpiry => exact outputs_of_next (outputs_event_if fun _ => .same (takeHoldSecond_powerPart s)) h
  | referenceLineEdge r rising => exact outputs_of_next (.same (lineEdge_powerPart r rising s)) h
  -- links
  | readFrameArrival n | writeFrameArrival n =>
    refine outputs_of_next ?_ h
    split
    · exact .same (requestArrives_powerPart n _ s)
    · exact .same (failedFrame_powerPart n s)
  | readyToFenceArrival n => exact outputs_of_next (.same (requestArrives_powerPart n _ s)) h
  | idleArrival n => exact outputs_of_next (.same (modLink_powerPart s n (idleArrives_gate _))) h
  | echoReplyArrival n seq turnaround =>
    exact outputs_of_next (outputs_event (replyArrives_outputs n seq turnaround.toNat s)) h
  | frameCheckFailed n => exact outputs_of_next (.same (failedFrame_powerPart n s)) h
  | echoReplyTimerExpiry n =>
    exact outputs_of_next (outputs_event_if fun _ => .same (modLink_powerPart_of_state s n (missEcho_state _))) h
  | errorWindowEnd n =>
    exact outputs_of_next (outputs_event_if fun _ => .same (modLink_powerPart_of_state s n (endWindow_state _ _))) h
  | sendGo n => exact outputs_of_next (outputs_if fun _ => .same (modLink_powerPart_of_state s n (beginGo_state _))) h
  | echoCadenceDue n | sendHold n | sendEcho n | sendIdle n =>
    exact outputs_of_next (outputs_if fun _ => .same (modLink_powerPart_of_state s n rfl)) h
  | sendData n => exact outputs_of_next (outputs_if fun _ => .same (modLink_powerPart_of_state s n (beginData_state _))) h
  | sendNotice n => exact outputs_of_next (outputs_if fun _ => .same (beginNotice_powerPart n s)) h
  | transmitFrameEnd n => exact outputs_of_next (.same (modLink_powerPart_of_state s n rfl)) h
  | resyncAdd n => exact outputs_of_next (.same (modList_powerPart s n _)) h
  -- windows and the memory port
  | windowTakeRead n => exact outputs_of_next (takeHeadRead_outputs n s) h
  | windowTakeWrite n => exact outputs_of_next (takeHeadWrite_outputs n s) h
  | readyToFenceTaken n => exact outputs_of_next (outputs_event_if fun _ => handFence_outputs n s) h
  | timeWord0Read n | statusMarkRead n => exact outputs_of_next (outputs_if fun _ => takeHeadRead_outputs n s) h
  | heldReadRelease n => exact outputs_of_next (.same (setWaiting_powerPart s n _)) h
  | memoryGrant => exact outputs_of_next (.same (takeGrant_powerPart s)) h
  | slotReadComplete =>
    revert h; show execSlotReadComplete s = _ → _
    unfold execSlotReadComplete; split
    · exact outputs_of_next (.same (completeRead_powerPart _ _ _ s))
    · exact outputs_of_next (.refl s)
  | slotWriteComplete =>
    revert h; show execSlotWriteComplete s = _ → _
    unfold execSlotWriteComplete; split
    · exact outputs_of_next (.same (completeWrite_powerPart _ s))
    · exact outputs_of_next (.refl s)
  | logWriteComplete =>
    revert h; show execLogWriteComplete s = _ → _
    unfold execLogWriteComplete; split
    · exact outputs_of_next (.same (completeLog_powerPart _ s))
    · exact outputs_of_next (.refl s)
  -- queues and staging
  | queueZeroingOffer => exact outputs_of_next (.same (offerZeroing_powerPart s)) h
  | zeroingComplete =>
    revert h; show execZeroingComplete s = _ → _
    unfold execZeroingComplete; split
    · exact outputs_of_next (outputs_event (.same (completeZeroing_powerPart _ _ s)))
    · exact outputs_of_next (.refl s)
  | commitRoundStart =>
    revert h; show execCommitRoundStart s = _ → _
    unfold execCommitRoundStart; split
    · exact outputs_of_next (outputs_event (.same (serveRound_powerPart _ s)))
    · exact outputs_of_next (.refl s)
  | commitTransactionComplete =>
    revert h; show execCommitTransactionComplete s = _ → _
    unfold execCommitTransactionComplete; split
    · exact outputs_of_next (outputs_event (.same (completeCommit_powerPart _ s)))
    · exact outputs_of_next (.refl s)
  -- slots
  | slotLineSample n lines | presentDebounced n lines | latchDebounced n lines | pgoodSteady n lines | pgoodLost n lines =>
    exact outputs_of_next (outputs_event_if fun _ => sampleSlot_outputs n lines s) h
  | rampTimerExpiry n | linkTimerExpiry n | realignLimitExpiry n =>
    exact outputs_of_next (outputs_event_if fun _ => takeFaulted_outputs n _ s) h
  | drainTimerExpiry n =>
    exact outputs_of_next (outputs_event_if fun hdue => takeFence_outputs (state_of_timerDue hdue)) h
  | powerDownTimerExpiry n => exact outputs_of_next (outputs_event_if fun _ => takePowerDown_outputs n s) h
  | backoffTimerExpiry n => exact outputs_of_next (outputs_event_if fun _ => takeBackoff_outputs n s) h
  | admitHead | readmitHead => exact outputs_of_next (outputs_event_if fun _ => .refl s) h
  -- alarm points and the environment
  | raiseDebounceExpiry p =>
    exact outputs_of_next (outputs_event_if fun _ => tellShed_outputs_of_reportPart (raisePoint_reportPart p _ s)) h
  | clearDebounceExpiry p =>
    exact outputs_of_next (outputs_event_if fun _ => tellShed_outputs_of_reportPart (clearPoint_reportPart p s)) h
  | contactSample => exact outputs_of_next (outputs_event_if fun _ => .same rfl) h
  | scanIntervalExpiry => exact outputs_of_next (outputs_if fun _ => .same (takeInterval_powerPart s)) h
  | conversionComplete vin vref =>
    revert h; show execConversionComplete vin vref s = _ → _
    unfold execConversionComplete; split
    · exact outputs_of_next (outputs_event_if fun _ => .same (takeResult_powerPart _ _ s))
    · exact outputs_of_next (.refl s)

/-- Settles O6: COLD_RESET leaves every slot EMPTY with its outputs and link off; of the other commands only those that change a
swap state move what the invariant speaks of, and each such change sets the outputs and the link with the state, enters FENCED
with the link fenced, and enters POWERING, by an admission alone, while no slot ramps. -/
theorem outputsFollowSwapState : Obligations.OutputsFollowSwapState := by
  refine ⟨cold_outputsFollow _ _ _, fun s t hs h => ?_⟩
  rcases step_cases h with rfl | ⟨c, rest, hc⟩
  · exact hs
  · exact exec_outputs (s := { s with pending := rest }) hc hs

end Sys2Proof.Machine
end

section
/-! SUPPORT. The part of the state that R149 and R157 speak of (`State.drawPart`): the committed draws and shed marks, the budget in
force, and the shed-trigger points; the two invariants read off that part; and the changes of it that keep both. -/

namespace Sys2Proof.Machine

open Sys2Proof

/-! ## The terms of the invariants -/

/-- What a slot's committed draw adds to the unmarked total (R150). -/
def Admission.unmarked (a : Admission) : Nat := if a.shed then 0 else a.draw

/-- The two budgets and which of them is in force (R149). -/
def State.budgets (s : State) : Bool × Nat × Nat := (s.onBattery, s.cfg.mains, s.cfg.battery)

/-- The points' states and shed-trigger marks (R149). -/
def State.triggerPart (s : State) : (PointId → PointState) × (PointId → Bool) :=
  (fun p => s.points[p].state, fun p => s.cfg.points[p].shedTrigger)

/-- What R149 and R157 speak of: the committed draws and shed marks, the budgets, the shed-trigger points. -/
def State.drawPart (s : State) :
    Vector Admission 12 × (Bool × Nat × Nat) × (PointId → PointState) × (PointId → Bool) :=
  (s.adm, s.budgets, s.triggerPart)

theorem drawPart_iff {s t : State} :
    t.drawPart = s.drawPart ↔ t.adm = s.adm ∧ t.budgets = s.budgets ∧ t.triggerPart = s.triggerPart := by
  simp only [State.drawPart, Prod.mk.injEq]

theorem budgetInForce_eq {s t : State} (h : t.budgets = s.budgets) : budgetInForce t = budgetInForce s :=
  congrArg (fun b : Bool × Nat × Nat => if b.1 then b.2.2 else b.2.1) h

theorem shedTriggered_eq {s t : State} (h : t.triggerPart = s.triggerPart) : shedTriggered t = shedTriggered s :=
  congrArg (fun x : (PointId → PointState) × (PointId → Bool) =>
    (List.finRange 58).any fun p => x.2 p && decide (x.1 p = .raised ∨ x.1 p = .falling)) h

theorem unmarkedTotal_eq_sum (s : State) : unmarkedTotal s = ∑ n : SlotId, s.adm[n].unmarked := by
  rw [Fin.sum_univ_def, List.sum_eq_foldl, List.foldl_map]; rfl

theorem committedTotal_eq_sum (s : State) : committedTotal s = ∑ n : SlotId, s.adm[n].draw := by
  rw [Fin.sum_univ_def, List.sum_eq_foldl, List.foldl_map]; rfl

/-- The budget in force is the battery budget exactly while the shed triggers are (R149). -/
theorem budgetFollows_iff (s : State) : s.BudgetFollows ↔ s.onBattery = shedTriggered s := by
  rw [Bool.eq_iff_iff, State.BudgetFollows]
  simp only [shedTriggered, active, List.any_eq_true, List.mem_finRange, true_and, Bool.and_eq_true, decide_eq_true_eq]

/-! ## Both invariants along a change -/

/-- From s to t the unmarked draws stay within the budget in force, and that budget follows the shed-trigger points. -/
structure KeepsBudget (s t : State) : Prop where
  within : s.WithinBudget → t.WithinBudget
  follows : s.BudgetFollows → t.BudgetFollows

/-- From s to t no committed draw grows, and the budgets and the shed-trigger points stand: every slot keeps its draw and its mark
or has both cleared (R138, R140, R142). -/
structure DrawsFall (s t : State) : Prop where
  budgets : t.budgets = s.budgets
  triggers : t.triggerPart = s.triggerPart
  draws : ∀ n : SlotId, t.adm[n] = s.adm[n] ∨ t.adm[n] = Admission.cold

theorem KeepsBudget.refl (s : State) : KeepsBudget s s := ⟨id, id⟩

theorem KeepsBudget.trans {s t u : State} (h : KeepsBudget s t) (k : KeepsBudget t u) : KeepsBudget s u :=
  ⟨k.within ∘ h.within, k.follows ∘ h.follows⟩

/-- A change that leaves the part alone. -/
theorem DrawsFall.same {s t : State} (h : t.drawPart = s.drawPart) : DrawsFall s t := by
  obtain ⟨hadm, hbudgets, htriggers⟩ := drawPart_iff.1 h
  exact ⟨hbudgets, htriggers, fun n => .inl (by rw [hadm])⟩

theorem DrawsFall.refl (s : State) : DrawsFall s s := .same rfl

theorem DrawsFall.trans {s t u : State} (h : DrawsFall s t) (k : DrawsFall t u) : DrawsFall s u := by
  refine ⟨k.budgets.trans h.budgets, k.triggers.trans h.triggers, fun n => ?_⟩
  rcases k.draws n with hk | hk
  · rw [hk]; exact h.draws n
  · exact .inr hk

theorem withinBudget_of_draws {s t : State} (hbudgets : t.budgets = s.budgets)
    (hdraws : ∀ n : SlotId, t.adm[n].unmarked ≤ s.adm[n].unmarked) (hs : s.WithinBudget) : t.WithinBudget := by
  unfold State.WithinBudget at hs ⊢
  rw [unmarkedTotal_eq_sum] at hs ⊢
  rw [budgetInForce_eq hbudgets]
  exact (Finset.sum_le_sum fun n _ => hdraws n).trans hs

theorem withinBudget_of_adm {s t : State} (hadm : t.adm = s.adm) (hbudgets : t.budgets = s.budgets) (hs : s.WithinBudget) :
    t.WithinBudget := withinBudget_of_draws hbudgets (fun n => by rw [hadm]) hs

theorem budgetFollows_of_triggers {s t : State} (hbattery : t.onBattery = s.onBattery) (htriggers : t.triggerPart = s.triggerPart)
    (hs : s.BudgetFollows) : t.BudgetFollows := by
  rw [budgetFollows_iff] at hs ⊢
  rw [hbattery, hs, shedTriggered_eq htriggers]

/-- Where no draw grows, both invariants stand. -/
theorem DrawsFall.keeps {s t : State} (h : DrawsFall s t) : KeepsBudget s t := by
  refine ⟨withinBudget_of_draws h.budgets fun n => ?_, budgetFollows_of_triggers (congrArg Prod.fst h.budgets) h.triggers⟩
  rcases h.draws n with hn | hn
  · rw [hn]
  · rw [hn]; exact Nat.zero_le _

/-- A change that leaves the part alone keeps both. -/
theorem KeepsBudget.same {s t : State} (h : t.drawPart = s.drawPart) : KeepsBudget s t := (DrawsFall.same h).keeps

/-- Acts one after the other. -/
theorem Eff.andThen_drawsFall {s : State} {e : Eff} {f : State → Eff} (he : DrawsFall s e.1)
    (hf : ∀ t, DrawsFall t (f t).1) : DrawsFall s (e.andThen f).1 := he.trans (hf _)

theorem Eff.andThen_budget {s : State} {e : Eff} {f : State → Eff} (he : KeepsBudget s e.1)
    (hf : ∀ t, KeepsBudget t (f t).1) : KeepsBudget s (e.andThen f).1 := he.trans (hf _)

theorem foldEff_drawsFall {α : Type} {f : α → State → Eff} (h : ∀ a t, DrawsFall t (f a t).1) :
    ∀ (l : List α) (s : State), DrawsFall s (foldEff f l s).1
  | [], s => .refl s
  | a :: l, s => (h a s).trans (foldEff_drawsFall h l (f a s).1)

theorem foldEff_budget {α : Type} {f : α → State → Eff} (h : ∀ a t, KeepsBudget t (f a t).1) :
    ∀ (l : List α) (s : State), KeepsBudget s (foldEff f l s).1
  | [], s => .refl s
  | a :: l, s => (h a s).trans (foldEff_budget h l (f a s).1)

/-! ## Updates that the part does not see -/

section Updates

variable (s : State)

@[simp] theorem drawPart_links (v : Vector LinkPort 12) : State.drawPart { s with links := v } = s.drawPart := rfl
@[simp] theorem drawPart_lists (v : Vector NoticeList 12) : State.drawPart { s with lists := v } = s.drawPart := rfl
@[simp] theorem drawPart_queues (v : Vector Queue 64) : State.drawPart { s with queues := v } = s.drawPart := rfl
@[simp] theorem drawPart_staged (l : List Staged) : State.drawPart { s with staged := l } = s.drawPart := rfl
@[simp] theorem drawPart_rounds (l : List GroupId) : State.drawPart { s with rounds := l } = s.drawPart := rfl
@[simp] theorem drawPart_port (p : MemPort) : State.drawPart { s with port := p } = s.drawPart := rfl
@[simp] theorem drawPart_mem (m : Memory) : State.drawPart { s with mem := m } = s.drawPart := rfl
@[simp] theorem drawPart_time (t : Timebase) : State.drawPart { s with time := t } = s.drawPart := rfl
@[simp] theorem drawPart_frame (f : Nat) : State.drawPart { s with frame := f } = s.drawPart := rfl
@[simp] theorem drawPart_scan (c : Scan) : State.drawPart { s with scan := c } = s.drawPart := rfl
@[simp] theorem drawPart_relays (v : Vector Relay 4) : State.drawPart { s with relays := v } = s.drawPart := rfl
@[simp] theorem drawPart_log (l : LogWriter) : State.drawPart { s with log := l } = s.drawPart := rfl
@[simp] theorem drawPart_warmPending (b : Bool) : State.drawPart { s with warmPending := b } = s.drawPart := rfl
@[simp] theorem modLink_drawPart (n : SlotId) (f : LinkPort → LinkPort) : (s.modLink n f).drawPart = s.drawPart := rfl
@[simp] theorem modAccess_drawPart (n : SlotId) (f : AccessRecord → AccessRecord) :
    (s.modAccess n f).drawPart = s.drawPart := rfl
@[simp] theorem modQueue_drawPart (q : QueueId) (f : Queue → Queue) : (s.modQueue q f).drawPart = s.drawPart := rfl
@[simp] theorem modList_drawPart (n : SlotId) (f : NoticeList → NoticeList) : (s.modList n f).drawPart = s.drawPart := rfl
@[simp] theorem modGroup_drawPart (g : GroupId) (f : Group → Group) : (s.modGroup g f).drawPart = s.drawPart := rfl
@[simp] theorem modRef_drawPart (r : RefId) (f : Reference → Reference) : (s.modRef r f).drawPart = s.drawPart := rfl
@[simp] theorem modSwap_drawPart (n : SlotId) (f : Swap → Swap) : (s.modSwap n f).drawPart = s.drawPart := rfl
@[simp] theorem modChannel_drawPart (j : ChannelId) (f : Channel → Channel) : (s.modChannel j f).drawPart = s.drawPart := rfl
@[simp] theorem modMarks_drawPart (f : Marks → Marks) : (s.modMarks f).drawPart = s.drawPart := rfl
@[simp] theorem setWaiting_drawPart (n : SlotId) (t : Option SlotTxn) : (s.setWaiting n t).drawPart = s.drawPart := rfl

/-- A copy with the budgets and the points' records it had. -/
theorem drawPart_cfg {c : Cfg} (hmains : c.mains = s.cfg.mains) (hbattery : c.battery = s.cfg.battery)
    (hpoints : c.points = s.cfg.points) : State.drawPart { s with cfg := c } = s.drawPart := by
  unfold State.drawPart State.budgets State.triggerPart
  rw [hmains, hbattery, hpoints]

end Updates

/-! ## Notices and reports -/

@[simp] theorem handNotice_drawPart (n : SlotId) (id : NoticeId) (d : Details) (s : State) :
    (handNotice n id d s).1.drawPart = s.drawPart := by
  unfold handNotice; dsimp only; split_ifs <;> rfl

@[simp] theorem handAll_drawPart (ns : List SlotId) (id : NoticeId) (d : SlotId → Details) (s : State) :
    (handAll ns id d s).1.drawPart = s.drawPart :=
  foldEff_keeps State.drawPart (fun n t => handNotice_drawPart n id (d n) t) ns s

@[simp] theorem handCommitDone_drawPart (g : GroupId) (r : CommitResult) (k : Nat) (s : State) :
    (handCommitDone g r k s).1.drawPart = s.drawPart := handAll_drawPart _ _ _ s

@[simp] theorem queueNotice_drawPart (k : QueueNotice) (q : QueueId) (m : Nat) (s : State) :
    (queueNotice k q m s).1.drawPart = s.drawPart := by
  unfold queueNotice; split
  · exact handNotice_drawPart _ _ _ s
  · rfl

/-- Reports, and the points' own changes, leave the draws and the budgets alone. -/
theorem withinBudget_of_reportPart {s t : State} (h : t.reportPart = s.reportPart) (hs : s.WithinBudget) : t.WithinBudget :=
  withinBudget_of_adm (show t.reportPart.adm = s.reportPart.adm by rw [h])
    (show t.reportPart.budgets = s.reportPart.budgets by rw [h]) hs

theorem onBattery_of_reportPart {s t : State} (h : t.reportPart = s.reportPart) : t.onBattery = s.onBattery :=
  show t.reportPart.onBattery = s.reportPart.onBattery by rw [h]

end Sys2Proof.Machine
end

section
/-! SUPPORT. The swap sequencer's operations, under which no committed draw grows but the one that an admission commits; the admission
unit, whose choice fits and whose forming of a budget ends within it; and the alarm unit, which tells it of the shed triggers. -/

namespace Sys2Proof.Machine

open Sys2Proof

/-! ## A slot's change of swap state (chapter 8) -/

@[simp] theorem withdrawRead_drawPart (n : SlotId) (s : State) : (withdrawRead n s).drawPart = s.drawPart := by
  unfold withdrawRead; split <;> rfl

@[simp] theorem withdrawStale_drawPart (s : State) : (withdrawStale s).drawPart = s.drawPart := by
  unfold withdrawStale; split
  · split
    · rfl
    · exact drawPart_port s _
  · rfl

@[simp] theorem fenceLink_drawPart (n : SlotId) (s : State) : (fenceLink n s).drawPart = s.drawPart :=
  (modLink_drawPart _ n _).trans (withdrawRead_drawPart n s)

@[simp] theorem enterSwap_drawPart (n : SlotId) (st : SwapState) (r : Reason) (s : State) :
    (enterSwap n st r s).drawPart = s.drawPart := (modMarks_drawPart _ _).trans (modSwap_drawPart s n _)

@[simp] theorem startTimer_drawPart (n : SlotId) (ms : Nat) (s : State) : (startTimer n ms s).drawPart = s.drawPart :=
  modSwap_drawPart s n _

@[simp] theorem attachSlot_drawPart (n : SlotId) (s : State) : (attachSlot n s).drawPart = s.drawPart := drawPart_queues s _

theorem switchLink_drawPart (n : SlotId) (a b : SwapState) (s : State) : (switchLink n a b s).1.drawPart = s.drawPart := by
  unfold switchLink; split_ifs
  · rfl
  · exact modLink_drawPart s n _
  · exact (modLink_drawPart _ n _).trans (withdrawRead_drawPart n s)

theorem purgeSlot_drawPart (n : SlotId) (s : State) : (purgeSlot n s).drawPart = s.drawPart := by
  have h : ∀ (l : List Staged) (v : Vector Group 16), State.drawPart { s with staged := l, groups := v } = s.drawPart :=
    fun _ _ => rfl
  exact h _ _

theorem detachSlot_drawPart (n : SlotId) (s : State) : (detachSlot n s).1.drawPart = s.drawPart := by
  rw [detachSlot_eq]
  refine (foldEff_keeps State.drawPart (fun q t => ?_) _ _).trans ?_
  · unfold detachNotice; split
    · rfl
    · exact queueNotice_drawPart _ _ _ t
  · exact (withdrawStale_drawPart _).trans (drawPart_queues s _)

theorem clearDraw_drawsFall (n : SlotId) (s : State) : DrawsFall s (clearDraw n s) := by
  refine ⟨rfl, rfl, fun m => ?_⟩
  unfold clearDraw
  rw [State.modAdm_get]; split
  · exact .inr rfl
  · exact .inl rfl

/-- The teardown clears the slot's draw and leaves the others theirs (R138). -/
theorem teardown_drawsFall (n : SlotId) (s : State) : DrawsFall s (teardown n s).1 := by
  have hpurge : DrawsFall s (purgeSlot n (s.modList n fun _ => NoticeList.blank)) :=
    .same ((purgeSlot_drawPart n _).trans (modList_drawPart s n _))
  exact hpurge.trans ((clearDraw_drawsFall n _).trans (.same (detachSlot_drawPart n _)))

theorem moveSlot_drawsFall (n : SlotId) (st : SwapState) (r : Reason) (s : State) : DrawsFall s (moveSlot n st r s).1 := by
  have hswitched : DrawsFall s (s.switched n st r) := .same ((switchLink_drawPart n _ st _).trans (enterSwap_drawPart n st r s))
  rw [moveSlot_fst]; split
  · exact hswitched.trans (teardown_drawsFall n _)
  · exact hswitched

theorem changeSwap_drawsFall (n : SlotId) (st : SwapState) (r c : Reason) {own : State → State}
    (ho : ∀ t, DrawsFall t (own t)) (s : State) : DrawsFall s (changeSwap n st r c own s).1 :=
  (moveSlot_drawsFall n st r s).trans ((ho _).trans (.same (handAll_drawPart _ _ _ _)))

theorem modSwap_drawsFall (s : State) (n : SlotId) (f : Swap → Swap) : DrawsFall s (s.modSwap n f) := .same (modSwap_drawPart s n f)

theorem startTimer_drawsFall (n : SlotId) (ms : Nat) (s : State) : DrawsFall s (startTimer n ms s) :=
  .same (startTimer_drawPart n ms s)

theorem enterOff_drawsFall (n : SlotId) (c : Reason) (s : State) : DrawsFall s (enterOff n c s).1 :=
  changeSwap_drawsFall n _ _ _ (clearDraw_drawsFall n) s

theorem enterSeated_drawsFall (n : SlotId) (s : State) : DrawsFall s (enterSeated n s).1 :=
  changeSwap_drawsFall n _ _ _ .refl s

theorem takeSeat_drawsFall (n : SlotId) (s : State) : DrawsFall s (takeSeat n s).1 := by
  refine Eff.andThen_drawsFall (enterSeated_drawsFall n s) fun t => ?_
  split
  · exact enterOff_drawsFall n _ t
  · exact .refl t

theorem takeRampEnd_drawsFall (n : SlotId) (s : State) : DrawsFall s (takeRampEnd n s).1 :=
  changeSwap_drawsFall n _ _ _ (fun t => startTimer_drawsFall n t.cfg.linkTimeout t) s

theorem takeActivate_drawsFall (n : SlotId) (s : State) : DrawsFall s (takeActivate n s).1 := by
  refine changeSwap_drawsFall n _ _ _ (fun t => ?_) s
  have hrealign := modSwap_drawsFall t n (endRealign (decide (t.links[n].state = .opened)))
  dsimp only; split
  · exact hrealign
  · exact hrealign.trans (.same (attachSlot_drawPart n _))

theorem takeTurnOff_drawsFall (n : SlotId) (c : Reason) (s : State) : DrawsFall s (takeTurnOff n c s).1 := by
  refine Eff.andThen_drawsFall (enterOff_drawsFall n c s) fun t => ?_
  split
  · exact takeSeat_drawsFall n t
  · exact .refl t

theorem takePowerDown_drawsFall (n : SlotId) (s : State) : DrawsFall s (takePowerDown n s).1 := takeTurnOff_drawsFall n _ s

theorem takeFence_drawsFall (n : SlotId) (s : State) : DrawsFall s (takeFence n s).1 := by
  have hfenced : DrawsFall s (fenceLink n s) := .same (fenceLink_drawPart n s)
  unfold takeFence
  refine Eff.andThen_drawsFall
    (hfenced.trans (changeSwap_drawsFall n _ _ _ (fun t => startTimer_drawsFall n t.cfg.powerDownDelay t) _)) fun t => ?_
  split
  · exact takePowerDown_drawsFall n t
  · exact .refl t

theorem takeQuiesce_drawsFall (n : SlotId) (c : Reason) (s : State) : DrawsFall s (takeQuiesce n c s).1 := by
  refine Eff.andThen_drawsFall
    (changeSwap_drawsFall n _ _ _ (fun t => startTimer_drawsFall n t.cfg.drainTimeout t) s) fun t => ?_
  split
  · exact takeFence_drawsFall n t
  · exact .refl t

theorem takeFaulted_drawsFall (n : SlotId) (c : Reason) (s : State) : DrawsFall s (takeFaulted n c s).1 :=
  changeSwap_drawsFall n _ _ _ (fun t => (clearDraw_drawsFall n t).trans (modSwap_drawsFall _ n _)) s

theorem takeLockOut_drawsFall (n : SlotId) (s : State) : DrawsFall s (takeLockOut n s).1 :=
  changeSwap_drawsFall n _ _ _ .refl s

theorem takeUnseat_drawsFall (n : SlotId) (s : State) : DrawsFall s (takeUnseat n s).1 :=
  changeSwap_drawsFall n _ _ _ (clearDraw_drawsFall n) s

theorem takeLinkOpen_drawsFall (n : SlotId) (s : State) : DrawsFall s (takeLinkOpen n s).1 := by
  unfold takeLinkOpen; split
  · exact takeActivate_drawsFall n s
  · exact modSwap_drawsFall s n _
  · exact modSwap_drawsFall s n _
  · exact .refl s

theorem takeBackoff_drawsFall (n : SlotId) (s : State) : DrawsFall s (takeBackoff n s).1 := by
  unfold takeBackoff; split
  · exact takeSeat_drawsFall n s
  · exact takeLockOut_drawsFall n s

/-! ## The slot lines (R127, R128) -/

theorem judgePresentLine_drawsFall (n : SlotId) (b : Bool) (s : State) : DrawsFall s (judgePresentLine n b s).1 := by
  have h : ∀ k j, DrawsFall s (s.modSwap n fun w => { w with present := k, presentCount := j }) :=
    fun _ _ => modSwap_drawsFall s n _
  unfold judgePresentLine presentActs; dsimp only; split_ifs
  · exact (h _ _).trans (takeSeat_drawsFall n _)
  · exact h _ _
  · exact h _ _
  · exact (h _ _).trans (takeUnseat_drawsFall n _)
  · exact h _ _

theorem judgeFaultLine_drawsFall (n : SlotId) (b : Bool) (s : State) : DrawsFall s (judgeFaultLine n b s).1 := by
  unfold judgeFaultLine; split
  · exact takeFaulted_drawsFall n _ s
  · exact .refl s

theorem judgePgoodLine_drawsFall (n : SlotId) (b : Bool) (s : State) : DrawsFall s (judgePgoodLine n b s).1 := by
  refine (modSwap_drawsFall s n (countPgood b)).trans ?_
  unfold judgePgoodLine pgoodActs; split_ifs
  · exact takeRampEnd_drawsFall n _
  · exact takeFaulted_drawsFall n _ _
  · exact .refl _

theorem latchOpens_drawsFall (n : SlotId) (s : State) : DrawsFall s (latchOpens n s).1 := by
  unfold latchOpens; split
  · exact takeTurnOff_drawsFall n _ s
  · exact takeTurnOff_drawsFall n _ s
  · exact takeQuiesce_drawsFall n _ s
  · dsimp only; exact modSwap_drawsFall s n _
  · exact .refl s

theorem latchCloses_drawsFall (n : SlotId) (s : State) : DrawsFall s (latchCloses n s).1 := by
  unfold latchCloses; split
  · split
    · exact takeActivate_drawsFall n s
    · exact .refl s
  · split
    · exact takeSeat_drawsFall n s
    · exact .refl s
  · exact .refl s

theorem judgeLatchLine_drawsFall (n : SlotId) (b : Bool) (s : State) : DrawsFall s (judgeLatchLine n b s).1 := by
  have h : ∀ k j, DrawsFall s (s.modSwap n fun w => { w with latchClosed := k, latchCount := j }) :=
    fun _ _ => modSwap_drawsFall s n _
  unfold judgeLatchLine; dsimp only; split_ifs
  · exact (h _ _).trans (latchCloses_drawsFall n _)
  · exact (h _ _).trans (latchOpens_drawsFall n _)
  · exact h _ _

theorem sampleSlot_drawsFall (n : SlotId) (l : Lines) (s : State) : DrawsFall s (sampleSlot n l s).1 :=
  Eff.andThen_drawsFall (Eff.andThen_drawsFall (Eff.andThen_drawsFall
    ((modSwap_drawsFall s n _).trans (judgePresentLine_drawsFall n _ _)) (judgeFaultLine_drawsFall n _))
    (judgePgoodLine_drawsFall n _)) (judgeLatchLine_drawsFall n _)

/-! ## The slot commands and the policy (R130) -/

theorem takeRemove_drawsFall (n : SlotId) (s : State) : DrawsFall s (takeRemove n s).1 := by
  refine (modSwap_drawsFall s n fun w => { w with powerRequest := false }).trans ?_
  unfold takeRemove; dsimp only; split
  · exact takeTurnOff_drawsFall n _ _
  · exact takeTurnOff_drawsFall n _ _
  · exact takeTurnOff_drawsFall n _ _
  · exact takeQuiesce_drawsFall n _ _
  · exact modSwap_drawsFall _ n _
  · exact modSwap_drawsFall _ n _
  · exact takeTurnOff_drawsFall n _ _
  · exact .refl _

theorem takeSlotCommand_drawsFall (n : SlotId) (w : Word) (s : State) : DrawsFall s (takeSlotCommand n w s).1 := by
  unfold takeSlotCommand; split
  · have h := modSwap_drawsFall s n fun w => { w with powerRequest := true }
    unfold takePowerOn; dsimp only; split
    · exact h.trans (takeSeat_drawsFall n _)
    · exact h
  · exact takeRemove_drawsFall n s
  · unfold takeClearLockout; split
    · exact (modSwap_drawsFall s n _).trans (takeSeat_drawsFall n _)
    · exact .refl s
  · exact .refl s

theorem policyActs_drawsFall (n : SlotId) (old : Policy) (s : State) : DrawsFall s (policyActs n old s).1 := by
  unfold policyActs; split
  · split
    · exact takeTurnOff_drawsFall n _ s
    · exact takeTurnOff_drawsFall n _ s
    · exact takeTurnOff_drawsFall n _ s
    · exact takeQuiesce_drawsFall n _ s
    · exact modSwap_drawsFall s n _
    · exact modSwap_drawsFall s n _
    · exact .refl s
  · split
    · exact takeSeat_drawsFall n s
    · exact .refl s

/-! ## Admission (R150, R152, R153) -/

/-- The draw that slot n's configuration would commit, with no mark (R150). -/
def State.asked (s : State) (n : SlotId) : Admission := { draw := s.cfg.slots[n].draw, shed := false }

/-- From s to t slot n alone has its draw committed; every other slot keeps its draw and its mark or has both cleared. -/
structure Commits (n : SlotId) (s t : State) : Prop where
  budgets : t.budgets = s.budgets
  triggers : t.triggerPart = s.triggerPart
  draws : ∀ m : SlotId, n ≠ m → t.adm[m] = s.adm[m] ∨ t.adm[m] = Admission.cold
  own : t.adm[n] = s.asked n

theorem cfg_of_lightPart {s t : State} (h : t.lightPart = s.lightPart) : t.cfg = s.cfg :=
  show t.lightPart.cfg = s.lightPart.cfg by rw [h]

theorem enterPowering_commits (n : SlotId) (s : State) : Commits n s (enterPowering n s).1 := by
  obtain ⟨hbudgets, htriggers, hdraws⟩ := moveSlot_drawsFall n .powering .noReason s
  have hcfg := cfg_of_lightPart (moveSlot_lightPart n .powering .noReason s)
  have hpart : (enterPowering n s).1.drawPart =
      ((moveSlot n .powering .noReason s).1.modAdm n fun _ => (moveSlot n .powering .noReason s).1.asked n).drawPart :=
    handAll_drawPart _ _ _ _
  generalize (moveSlot n .powering .noReason s).1 = u at *
  obtain ⟨hadm, hb, ht⟩ := drawPart_iff.1 hpart
  refine ⟨hb.trans hbudgets, ht.trans htriggers, fun m hm => ?_, ?_⟩
  · rw [hadm, State.modAdm_get_ne _ _ _ _ hm]; exact hdraws m
  · rw [hadm, State.modAdm_get_self, State.asked, State.asked, hcfg]

theorem Commits.after {n : SlotId} {s t u : State} (h : DrawsFall s t) (hcfg : t.cfg = s.cfg) (k : Commits n t u) :
    Commits n s u := by
  refine ⟨k.budgets.trans h.budgets, k.triggers.trans h.triggers, fun m hm => ?_, ?_⟩
  · rcases k.draws m hm with hk | hk
    · rw [hk]; exact h.draws m
    · exact .inr hk
  · rw [k.own, State.asked, State.asked, hcfg]

theorem admitSlot_commits (n : SlotId) (s : State) : Commits n s (admitSlot n s).1 := by
  unfold admitSlot; split
  · rw [Eff.andThen_fst]
    exact (enterPowering_commits n _).after (enterSeated_drawsFall n s) (cfg_of_lightPart (enterSeated_lightPart n s))
  · exact enterPowering_commits n s

/-- The unmarked total after a draw is committed is at most the committed total before it and the draw. -/
theorem Commits.unmarkedTotal_le {n : SlotId} {s t : State} (h : Commits n s t) :
    unmarkedTotal t ≤ committedTotal s + s.cfg.slots[n].draw := by
  have hslot : ∀ m : SlotId, t.adm[m].unmarked ≤ s.adm[m].draw + if n = m then s.cfg.slots[n].draw else 0 := fun m => by
    have hdraw : ∀ a : Admission, a.unmarked ≤ a.draw := fun a => by unfold Admission.unmarked; split <;> omega
    split
    · rename_i hm; subst hm
      rw [h.own]; exact (hdraw _).trans (Nat.le_add_left _ _)
    · rename_i hm
      rcases h.draws m hm with hd | hd
      · rw [hd]; exact hdraw _
      · rw [hd]; exact Nat.zero_le _
  calc unmarkedTotal t = ∑ m : SlotId, t.adm[m].unmarked := unmarkedTotal_eq_sum t
    _ ≤ ∑ m : SlotId, (s.adm[m].draw + if n = m then s.cfg.slots[n].draw else 0) := Finset.sum_le_sum fun m _ => hslot m
    _ = committedTotal s + s.cfg.slots[n].draw := by
      rw [Finset.sum_add_distrib, Finset.sum_ite_eq, if_pos (Finset.mem_univ n), committedTotal_eq_sum]

theorem fits_of_admissible {s : State} {n : SlotId} (h : admissible s = some n) : fits s n = true := by
  unfold admissible at h; split at h
  · split at h
    · rename_i hfits
      cases h
      exact (Bool.and_eq_true_iff.1 hfits).1
    · cases h
  · cases h

/-- The slot admitted fits the budget in force with all that is committed, marked or not (R152). -/
theorem admitSlot_budget {n : SlotId} {s : State} (h : admissible s = some n) : KeepsBudget s (admitSlot n s).1 := by
  have hc := admitSlot_commits n s
  refine ⟨fun _ => ?_, budgetFollows_of_triggers (congrArg Prod.fst hc.budgets) hc.triggers⟩
  unfold State.WithinBudget
  rw [budgetInForce_eq hc.budgets]
  exact hc.unmarkedTotal_le.trans (of_decide_eq_true (fits_of_admissible h))

/-! ## Shedding (R155, R156) -/

/-- Whether a slot may be marked for shedding: its mark is clear and its draw above 0 (R155). -/
def Admission.sheddable (a : Admission) : Bool := !a.shed && decide (0 < a.draw)

/-- The slots that may be marked. -/
def State.sheddable (s : State) : Finset SlotId := Finset.univ.filter fun n => s.adm[n].sheddable = true

/-- A fold that passes the members it does not count and goes on with one it has seen finds a counted member, or there is none. -/
theorem foldl_found {α : Type} {c : α → Bool} {f : Option α → α → Option α} (hskip : ∀ x a, c a = false → f x a = x)
    (hfind : ∀ x a, c a = true → f x a = some a ∨ (f x a = x ∧ x ≠ none)) : ∀ (l : List α) (x : Option α),
    (∀ a, l.foldl f x = some a → x = some a ∨ c a = true) ∧ (l.foldl f x = none → x = none ∧ ∀ a ∈ l, c a = false)
  | [], x => ⟨fun _ h => .inl h, fun h => ⟨h, nofun⟩⟩
  | b :: l, x => by
    obtain ⟨hsome, hnone⟩ := foldl_found hskip hfind l (f x b)
    simp only [List.foldl_cons, List.forall_mem_cons]
    cases hb : c b with
    | false =>
      rw [hskip x b hb] at hsome hnone ⊢
      exact ⟨hsome, fun h => ⟨(hnone h).1, rfl, (hnone h).2⟩⟩
    | true =>
      rcases hfind x b hb with hf | ⟨hf, hx⟩
      · rw [hf] at hsome hnone ⊢
        refine ⟨fun a ha => .inr ?_, fun h => nomatch (hnone h).1⟩
        rcases hsome a ha with h | h
        · cases h; exact hb
        · exact h
      · rw [hf] at hsome hnone ⊢
        exact ⟨hsome, fun h => absurd (hnone h).1 hx⟩

theorem shedNext_found (s : State) : (∀ n, shedNext s = some n → s.adm[n].sheddable = true) ∧
    (shedNext s = none → ∀ n : SlotId, s.adm[n].sheddable = false) := by
  obtain ⟨hsome, hnone⟩ := foldl_found (c := fun n : SlotId => s.adm[n].sheddable) (f := fun best n =>
      if !s.adm[n].shed && decide (0 < s.adm[n].draw) then
        match best with
        | none => some n
        | some b => if ranksBefore s b n then some n else some b
      else best)
    (fun x n hn => by
      have hn' : (!s.adm[n].shed && decide (0 < s.adm[n].draw)) = false := hn
      simp only [hn', Bool.false_eq_true, if_false])
    (fun x n hn => by
      have hn' : (!s.adm[n].shed && decide (0 < s.adm[n].draw)) = true := hn
      simp only [hn', if_true]
      cases x with
      | none => exact .inl rfl
      | some b => by_cases hr : ranksBefore s b n = true <;> simp [hr])
    (List.finRange 12) none
  exact ⟨fun n h => (hsome n h).elim nofun id, fun h n => (hnone h).2 n (List.mem_finRange n)⟩

theorem unmarked_of_not_sheddable {a : Admission} (h : a.sheddable = false) : a.unmarked = 0 := by
  unfold Admission.sheddable at h
  unfold Admission.unmarked
  cases hshed : a.shed with
  | true => rfl
  | false =>
    rw [hshed] at h
    simpa using h

/-- With no slot left to mark, nothing unmarked is drawn. -/
theorem withinBudget_of_none_sheddable {s : State} (h : ∀ n : SlotId, s.adm[n].sheddable = false) : s.WithinBudget := by
  unfold State.WithinBudget
  rw [unmarkedTotal_eq_sum, Finset.sum_eq_zero fun n _ => unmarked_of_not_sheddable (h n)]
  exact Nat.zero_le _

theorem mem_sheddable {s : State} {n : SlotId} : n ∈ s.sheddable ↔ s.adm[n].sheddable = true := by
  simp only [State.sheddable, Finset.mem_filter, Finset.mem_univ, true_and]

/-- A mark takes its slot, and no other, out of those that may be marked. -/
theorem sheddable_mark (s : State) (n : SlotId) :
    (s.modAdm n fun a => { a with shed := true }).sheddable = s.sheddable.erase n := by
  ext m
  rw [Finset.mem_erase, mem_sheddable, mem_sheddable, State.modAdm_get]
  by_cases h : n = m
  · subst h; simp [Admission.sheddable]
  · simp [h, Ne.symm h]

/-- Marks set one by one, as many as there are slots to mark, bring the unmarked total within the budget in force (R155). -/
theorem markSheds_within : ∀ (k : Nat) (s : State), s.sheddable.card ≤ k → (markSheds k s).1.WithinBudget
  | 0, s, h => withinBudget_of_none_sheddable (s := s) fun n => by
    have hempty : s.sheddable = ∅ := Finset.card_eq_zero.1 (Nat.le_zero.1 h)
    rw [← Bool.not_eq_true, ← mem_sheddable, hempty]
    exact Finset.notMem_empty n
  | k + 1, s, h => by
    obtain ⟨hfound, hnone⟩ := shedNext_found s
    unfold markSheds; split
    · split
      · rename_i n hn
        refine markSheds_within k _ ?_
        rw [sheddable_mark, Finset.card_erase_of_mem (mem_sheddable.2 (hfound n hn))]
        exact Nat.sub_le_of_le_add h
      · rename_i hn
        exact withinBudget_of_none_sheddable (hnone hn)
    · rename_i hover
      exact not_lt.1 hover

theorem markSheds_budgets (k : Nat) (s : State) :
    (markSheds k s).1.budgets = s.budgets ∧ (markSheds k s).1.triggerPart = s.triggerPart := by
  induction k generalizing s with
  | zero => exact ⟨rfl, rfl⟩
  | succ k ih =>
    unfold markSheds; split
    · split
      · exact ih _
      · exact ⟨rfl, rfl⟩
    · exact ⟨rfl, rfl⟩

theorem takeShed_drawsFall (n : SlotId) (s : State) : DrawsFall s (takeShed n s).1 := by
  unfold takeShed; split
  · exact takeTurnOff_drawsFall n _ s
  · exact takeTurnOff_drawsFall n _ s
  · exact takeQuiesce_drawsFall n _ s
  · dsimp only; exact modSwap_drawsFall s n _
  · exact .refl s

/-- Whatever stood before, the unmarked draws lie within a budget once it is formed: twelve marks are enough for twelve slots
(R155). -/
theorem formBudget_within (s : State) : (formBudget s).1.WithinBudget := by
  have hcard : s.sheddable.card ≤ 12 := Finset.card_le_univ s.sheddable
  exact (foldEff_drawsFall takeShed_drawsFall _ _).keeps.within (markSheds_within 12 s hcard)

theorem formBudget_follows {s : State} (hs : s.BudgetFollows) : (formBudget s).1.BudgetFollows := by
  obtain ⟨hbudgets, htriggers⟩ := markSheds_budgets 12 s
  exact (foldEff_drawsFall takeShed_drawsFall _ _).keeps.follows
    (budgetFollows_of_triggers (congrArg Prod.fst hbudgets) htriggers hs)

/-! ## The alarm unit's acts and events (R149) -/

/-- An act of the alarm unit that moves no draw and no budget keeps both invariants with what the admission unit does after it: told
of a change of the shed triggers, it puts in force and forms the budget that they select. -/
theorem tellShed_budget {act : State → Eff} {s : State} (hwithin : s.WithinBudget → (act s).1.WithinBudget)
    (hbattery : (act s).1.onBattery = s.onBattery) : KeepsBudget s (tellShed act s).1 := by
  by_cases h : shedTriggered (act s).1 = shedTriggered s
  · rw [tellShed_same h]
    refine ⟨hwithin, fun hs => ?_⟩
    rw [budgetFollows_iff] at hs ⊢
    rw [hbattery, hs, h]
  · rw [tellShed_told h]
    exact ⟨fun _ => formBudget_within _, fun _ => formBudget_follows ((budgetFollows_iff _).2 rfl)⟩

theorem tellShed_budget_of_reportPart {act : State → Eff} {s : State} (h : (act s).1.reportPart = s.reportPart) :
    KeepsBudget s (tellShed act s).1 := tellShed_budget (withinBudget_of_reportPart h) (onBattery_of_reportPart h)

theorem takeInput_budget (i : Input) (s : State) : KeepsBudget s (takeInput i s).1 :=
  tellShed_budget_of_reportPart (inputAct_reportPart i s)

/-- An event keeps what its own act keeps. -/
theorem budget_event {act : State → Eff} {s : State} (h : KeepsBudget s (act s).1) : KeepsBudget s (event act s) :=
  h.trans (event_keeps (KeepsBudget (act s).1) (fun i t ht => ht.trans (takeInput_budget i t))
    (fun _ _ hn ht => ht.trans (admitSlot_budget hn)) (fun _ t ht => ht.trans (.same (drawPart_log t _))) act s (.refl _))

end Sys2Proof.Machine
end

section
/-! SUPPORT. The other blocks' operations. Links, queues, staging, the memory port, the timebase, the environment and the windows leave
the draws, the budgets and the shed triggers alone; a region word may move a slot, set the budgets, or move a shed trigger. -/

namespace Sys2Proof.Machine

open Sys2Proof

/-! ## Links (chapter 1) -/

theorem loseAlignment_drawPart (n : SlotId) (s : State) : (loseAlignment n s).drawPart = s.drawPart := by
  unfold loseAlignment; dsimp only; split <;> simp

theorem failedFrame_drawPart (n : SlotId) (s : State) : (failedFrame n s).drawPart = s.drawPart := by
  unfold failedFrame; split
  · rfl
  · exact modLink_drawPart s n _
  · rfl
  · dsimp only; split
    · exact loseAlignment_drawPart n _
    · exact modLink_drawPart s n _

theorem replyArrives_drawsFall (n : SlotId) (seq : BitVec 16) (k : Nat) (s : State) :
    DrawsFall s (replyArrives n seq k s).1 := by
  have hlink : ∀ (f : LinkPort → LinkPort) (t : State), DrawsFall t (t.modLink n f) := fun f t => .same (modLink_drawPart t n f)
  have hjudge : ∀ (e : Echo) (t : State), DrawsFall t (judgeReply n e k t).1 := fun e t => by
    unfold judgeReply; dsimp only; split_ifs
    · exact Eff.andThen_drawsFall (hlink _ t) (takeLinkOpen_drawsFall n)
    · exact hlink _ t
    · exact hlink _ t
  unfold replyArrives; split
  · exact .refl s
  · dsimp only; exact hlink _ s
  · exact .refl s
  · dsimp only; split
    · split
      · exact (hlink passedCheck s).trans (hjudge _ _)
      · exact hlink passedCheck s
    · exact hlink passedCheck s

theorem beginNotice_drawPart (n : SlotId) (s : State) : (beginNotice n s).drawPart = s.drawPart := by
  unfold beginNotice; split
  · exact (modLink_drawPart _ n _).trans (modList_drawPart s n _)
  · rfl

theorem handFence_drawsFall (n : SlotId) (s : State) : DrawsFall s (handFence n s).1 := by
  have hpop : DrawsFall s (s.modLink n popFrame) := .same (modLink_drawPart s n _)
  unfold handFence; split
  · exact hpop.trans (takeFence_drawsFall n _)
  · exact hpop

/-! ## Queues (chapter 3) -/

theorem takeOpen_drawPart (q : QueueId) (s : State) : (takeOpen q s).drawPart = s.drawPart := by
  unfold takeOpen; dsimp only; split_ifs <;> simp

theorem takeClose_drawPart (q : QueueId) (s : State) : (takeClose q s).drawPart = s.drawPart := by
  have hwithdrawn : ∀ t : State, (withdrawZeroing q t).drawPart = t.drawPart := fun t => by
    unfold withdrawZeroing; split
    · exact drawPart_port t _
    · rfl
  unfold takeClose; split
  · rfl
  · exact (drawPart_lists _ _).trans ((hwithdrawn _).trans (modQueue_drawPart s q _))

theorem offerZeroing_drawPart (s : State) : (offerZeroing s).drawPart = s.drawPart := by
  unfold offerZeroing; split
  · rfl
  · split
    · exact (drawPart_port _ _).trans (modQueue_drawPart s _ _)
    · rfl

theorem judgeIndex_drawPart (n : SlotId) (q : QueueId) (b : Bool) (new : Nat) (s : State) :
    (judgeIndex n q b new s).eff.1.drawPart = s.drawPart := by
  have hproducer : (producerAdvance q new s).1.drawPart = s.drawPart := by
    unfold producerAdvance; dsimp only; split <;> simp
  have hconsumer : (consumerAdvance q new s).1.drawPart = s.drawPart := by
    unfold consumerAdvance; dsimp only; split <;> simp
  have hoverrun : (producerOverrun q s).1.drawPart = s.drawPart :=
    (queueNotice_drawPart _ _ _ _).trans (modQueue_drawPart s q _)
  unfold judgeIndex; dsimp only; split_ifs
  · rfl
  · rfl
  · rfl
  · exact hproducer
  · exact hoverrun
  · rfl
  · rfl
  · exact hconsumer
  · rfl

theorem completeZeroing_drawPart (q : QueueId) (base : Nat) (s : State) :
    (completeZeroing q base s).1.drawPart = s.drawPart := by
  have hready : ∀ t : State, (readyNotices q t).1.drawPart = t.drawPart := fun t => by
    unfold readyNotices; dsimp only; split <;> simp
  have hfree : ∀ m : Memory, State.drawPart { freePort s with mem := m } = s.drawPart := fun _ => rfl
  unfold completeZeroing zeroed; split
  · exact (hready _).trans ((modQueue_drawPart _ q _).trans (hfree _))
  · exact hfree _

/-! ## Staging (chapter 5) -/

theorem takeStagingWord_drawPart (n : SlotId) (s : State) (k : StagingWord) :
    (takeStagingWord n s k).drawPart = s.drawPart := by
  cases k with
  | staged g a d be =>
    unfold takeStagingWord takeStaged; dsimp only; split_ifs <;> simp
  | arm g d be =>
    unfold takeStagingWord takeArmWord; dsimp only; split
    · split
      · exact modGroup_drawPart s g _
      · exact modGroup_drawPart s g _
      · exact (modGroup_drawPart _ g _).trans (drawPart_staged s _)
      · rfl
    · rfl

theorem handStaging_drawPart (n : SlotId) : ∀ (ks : List StagingWord) (s : State),
    (handStaging n ks s).drawPart = s.drawPart
  | [], _ => rfl
  | k :: rest, s => (handStaging_drawPart n rest _).trans (takeStagingWord_drawPart n s k)

theorem tickGroups_drawPart (disc : Bool) (s : State) : (tickGroups disc s).1.drawPart = s.drawPart := by
  have hdue : ∀ (g : GroupId) (t : State), (takeDue g t).1.drawPart = t.drawPart := fun g t => by
    unfold takeDue; dsimp only; split
    · exact (handCommitDone_drawPart g _ _ _).trans ((modGroup_drawPart _ g _).trans (drawPart_staged t _))
    · exact (modGroup_drawPart _ g _).trans (drawPart_rounds t _)
  unfold tickGroups; split
  · refine foldEff_keeps State.drawPart (fun g t => ?_) _ s
    split
    · exact (handCommitDone_drawPart g _ _ _).trans (modGroup_drawPart t g _)
    · rfl
  · refine (drawPart_port _ _).trans (foldEff_keeps State.drawPart (fun g t => ?_) _ s)
    split
    · exact hdue g t
    · rfl

/-- A WARM_RESET leaves slots, points and the admission unit alone (R194). -/
theorem carryOutWarm_drawPart (s : State) : (carryOutWarm s).drawPart = s.drawPart := by
  have hports : ∀ (t : State) (v : Vector LinkPort 12) (p : MemPort),
      State.drawPart { t with links := v, port := p } = t.drawPart := fun _ _ _ => rfl
  have hqueues : ∀ (t : State) (v : Vector Queue 64) (p : MemPort),
      State.drawPart { t with queues := v, port := p } = t.drawPart := fun _ _ _ => rfl
  have hstaging : ∀ t : State, (warmStaging (emptyLists t)).drawPart = t.drawPart := fun _ => rfl
  have hrest : ∀ (t : State) (l : Vector Latch 12) (m : Vector Marks 12),
      State.drawPart { t with latches := l, marks := m, warmPending := false } = t.drawPart := fun _ _ _ => rfl
  exact (hrest _ _ _).trans ((hstaging _).trans ((hqueues (warmLinks s) _ _).trans (hports s _ _)))

theorem takeWarm_drawPart (s : State) : (takeWarm s).drawPart = s.drawPart := by
  unfold takeWarm; split
  · exact drawPart_warmPending s _
  · exact carryOutWarm_drawPart s

theorem warmIfDue_drawPart (s : State) : (warmIfDue s).drawPart = s.drawPart := by
  unfold warmIfDue; split
  · exact carryOutWarm_drawPart s
  · rfl

theorem serveRound_drawPart (g : GroupId) (s : State) : (serveRound g s).1.drawPart = s.drawPart := by
  have hround : ∀ (l : List Staged) (rs : List GroupId),
      State.drawPart { s with staged := l, rounds := rs, serving := false } = s.drawPart := fun _ _ => rfl
  have hclose : (closeRound g s).1.drawPart = s.drawPart :=
    (handCommitDone_drawPart g _ _ _).trans ((modGroup_drawPart _ g _).trans (hround _ _))
  have hserving : ∀ p : MemPort, State.drawPart { s with serving := true, port := p } = s.drawPart := fun _ => rfl
  unfold serveRound; split
  · exact Eff.andThen_keeps State.drawPart hclose fun t => (warmIfDue_drawPart _).trans (drawPart_port t _)
  · exact hserving _

/-! ## The memory port (section 2.6) -/

theorem takeGrant_drawPart (s : State) : (takeGrant s).drawPart = s.drawPart := by
  unfold takeGrant; split
  · rfl
  · split
    · exact drawPart_port s _
    · exact drawPart_port s _
    · exact drawPart_port s _
    · exact (handStaging_drawPart _ _ _).trans (drawPart_port s _)
    · rfl

theorem completeRead_drawPart (n : SlotId) (id : Nat) (as : List Nat) (s : State) :
    (completeRead n id as s).drawPart = s.drawPart := (modLink_drawPart _ n _).trans (drawPart_port s _)

theorem completeWrite_drawPart (ws : List WriteWord) (s : State) : (completeWrite ws s).drawPart = s.drawPart :=
  (drawPart_mem _ _).trans (drawPart_port s _)

theorem completeLog_drawPart (ws : List WriteWord) (s : State) : (completeLog ws s).drawPart = s.drawPart :=
  (drawPart_log (completeWrite ws s) _).trans (completeWrite_drawPart ws s)

theorem completeCommit_drawPart (ws : List WriteWord) (s : State) : (completeCommit ws s).1.drawPart = s.drawPart := by
  have hwrite := completeWrite_drawPart ws s
  unfold completeCommit; dsimp only; split
  · exact (serveRound_drawPart _ _).trans ((drawPart_staged _ _).trans hwrite)
  · exact hwrite

theorem completeStartUp_drawPart (k : Nat) (s : State) : (completeStartUp k s).drawPart = s.drawPart := by
  have h : ∀ (m : Memory) (x : Option Nat), State.drawPart { s with mem := m, startUp := x } = s.drawPart := fun _ _ => rfl
  exact h _ _

/-! ## The timebase (chapters 6 and 7) -/

theorem chooseActive_drawPart (s : State) : (chooseActive s).1.drawPart = s.drawPart := by
  unfold chooseActive; dsimp only; split
  · split
    · rfl
    · exact (modRef_drawPart _ _ _).trans (drawPart_time s _)
  · exact drawPart_time s _
  · exact drawPart_time s _

theorem takeRefConfig_drawPart (r : RefId) (e : Bool) (p : Nat) (s : State) :
    (takeRefConfig r e p s).1.drawPart = s.drawPart := by
  have hcfg : ∀ v, State.drawPart { s with cfg := { s.cfg with refs := v } } = s.drawPart := fun _ => drawPart_cfg s rfl rfl rfl
  unfold takeRefConfig; dsimp only
  refine (chooseActive_drawPart _).trans ?_
  split
  · exact (modRef_drawPart _ r _).trans (hcfg _)
  · exact hcfg _

theorem adjustTime_drawPart (x : Int) (s : State) : (adjustTime x s).drawPart = s.drawPart := by
  have h : ∀ (t : Timebase) (v : Vector Reference 2), State.drawPart { s with time := t, refs := v } = s.drawPart := fun _ _ => rfl
  exact (drawPart_links _ _).trans (h _ _)

theorem acquireAct_drawPart (e : Int) (s : State) : (acquireAct e s).drawPart = s.drawPart := by
  unfold acquireAct; split
  · exact (drawPart_time _ _).trans (adjustTime_drawPart (-e) s)
  · exact drawPart_time s _

theorem loopAct_drawPart (r : RefId) (cap : Stamp) (s : State) : (loopAct r cap s).drawPart = s.drawPart := by
  have hlocked : ∀ (e : Int) (t : State), (lockedAct e t).drawPart = t.drawPart := fun e t => by
    unfold lockedAct; split_ifs <;> exact drawPart_time t _
  unfold loopAct; dsimp only; split
  · exact (hlocked _ _).trans (drawPart_time s _)
  · exact (acquireAct_drawPart _ _).trans (drawPart_time s _)
  · exact (acquireAct_drawPart _ _).trans (drawPart_time s _)
  · exact (acquireAct_drawPart _ _).trans (drawPart_time s _)

theorem pulseActs_drawPart (r : RefId) (cap : Stamp) (b : Option RefId) (s : State) :
    (pulseActs r cap b s).drawPart = s.drawPart := by
  unfold pulseActs; split
  · exact (drawPart_time _ _).trans (adjustTime_drawPart _ s)
  · split
    · exact loopAct_drawPart r cap s
    · rfl

theorem takeTick_drawPart (disc : Bool) (order : TickOrder) (s : State) : (takeTick disc order s).1.drawPart = s.drawPart := by
  have hframes : ∀ t, (handFrames disc t).1.drawPart = t.drawPart := fun t => handAll_drawPart _ _ _ t
  unfold takeTick; dsimp only; split
  · rfl
  · split
    · exact (Eff.andThen_keeps State.drawPart (tickGroups_drawPart disc _) hframes).trans (drawPart_frame s _)
    · exact (Eff.andThen_keeps State.drawPart (hframes _) (tickGroups_drawPart disc)).trans (drawPart_frame s _)

theorem takePulse_drawPart (r : RefId) (order : TickOrder) (s : State) : (takePulse r order s).1.drawPart = s.drawPart := by
  have hjudge : ∀ (cap : Stamp) (t : State), (judgePulse r cap order t).1.drawPart = t.drawPart := fun cap t => by
    unfold judgePulse; dsimp only; split
    · exact (takeTick_drawPart true order _).trans ((pulseActs_drawPart r cap _ _).trans
        ((chooseActive_drawPart _).trans (modRef_drawPart t r _)))
    · exact modRef_drawPart t r _
  unfold takePulse; split
  · split
    · exact (hjudge _ _).trans (modRef_drawPart s r _)
    · rfl
  · rfl

theorem lineEdge_drawPart (r : RefId) (b : Bool) (s : State) : (lineEdge r b s).drawPart = s.drawPart :=
  modRef_drawPart s r _

theorem takeMiss_drawPart (r : RefId) (s : State) : (takeMiss r s).1.drawPart = s.drawPart := by
  unfold takeMiss; split
  · exact (chooseActive_drawPart _).trans (modRef_drawPart s r _)
  · exact modRef_drawPart s r _

theorem takeHoldSecond_drawPart (s : State) : (takeHoldSecond s).1.drawPart = s.drawPart := by
  unfold takeHoldSecond; dsimp only; split <;> exact drawPart_time s _

/-- A tick of the millisecond divider moves the points' timers and leaves their states (R94). -/
theorem millisecond_drawPart (s : State) : (millisecond s).drawPart = s.drawPart := by
  have hpoints : (millisecond s).points = Vector.ofFn fun p : PointId => { s.points[p] with timer := s.points[p].timer.tick } := rfl
  have hstates : ∀ p : PointId, (millisecond s).points[p].state = s.points[p].state := fun p => by rw [hpoints, ofFn_get]
  have hcfg : (millisecond s).cfg = s.cfg := rfl
  refine drawPart_iff.2 ⟨rfl, rfl, ?_⟩
  simp only [State.triggerPart, hstates, hcfg]

theorem takePeriod_drawPart (order : TickOrder) (s : State) : (takePeriod order s).1.drawPart = s.drawPart := by
  have hcount : ∀ t : State, (countPeriod t).drawPart = t.drawPart := fun t => by
    unfold countPeriod; split
    · exact (millisecond_drawPart _).trans (drawPart_time t _)
    · exact drawPart_time t _
  have hclock : ∀ (t : Timebase) (v : Vector Reference 2) (c : Scan),
      State.drawPart { s with time := t, refs := v, scan := c } = s.drawPart := fun _ _ _ => rfl
  exact (takeTick_drawPart false order _).trans ((hcount _).trans (hclock _ _ _))

/-! ## The environment (chapter 11) -/

theorem startPass_drawPart (s : State) : (startPass s).drawPart = s.drawPart := by
  unfold startPass; split <;> exact drawPart_scan s _

theorem nextChannel_drawPart (j : ChannelId) (s : State) : (nextChannel j s).drawPart = s.drawPart := by
  unfold nextChannel; split
  · exact drawPart_scan s _
  · unfold endPass; split
    · exact (startPass_drawPart _).trans (drawPart_scan s _)
    · exact drawPart_scan s _

theorem takeScanNow_drawPart (s : State) : (takeScanNow s).drawPart = s.drawPart := by
  unfold takeScanNow; split
  · exact drawPart_scan s _
  · exact startPass_drawPart s

theorem takeInterval_drawPart (s : State) : (takeInterval s).drawPart = s.drawPart := by
  unfold takeInterval; dsimp only; split
  · exact drawPart_scan s _
  · exact (startPass_drawPart _).trans (drawPart_scan s _)

theorem takeResult_drawPart (j : ChannelId) (r : Nat) (s : State) : (takeResult j r s).1.drawPart = s.drawPart :=
  (nextChannel_drawPart j _).trans (modChannel_drawPart s j _)

theorem takeChannelConfig_drawPart (j : ChannelId) (new : ChannelCfg) (s : State) :
    (takeChannelConfig j new s).1.drawPart = s.drawPart := by
  have hcfg : State.drawPart { s with cfg := { s.cfg with channels := s.cfg.channels.set j new } } = s.drawPart :=
    drawPart_cfg s rfl rfl rfl
  have hnext := (nextChannel_drawPart j _).trans hcfg
  unfold takeChannelConfig; dsimp only; split_ifs
  · exact (modChannel_drawPart _ j _).trans hnext
  · exact (modChannel_drawPart _ j _).trans hcfg
  · exact hnext
  · exact hcfg

/-! ## Windows (chapter 2) -/

theorem recordWorst_drawPart (n : SlotId) (ps : List Placed) (s : State) : (recordWorst n ps s).1.drawPart = s.drawPart := by
  unfold recordWorst; split
  · exact modAccess_drawPart s n _
  · rfl

@[simp] theorem appendWord_drawPart (n : SlotId) (w : WriteWord) (s : State) : (appendWord n w s).drawPart = s.drawPart := by
  unfold appendWord; split <;> exact setWaiting_drawPart s n _

theorem keepOrHand_drawPart (n : SlotId) (ks : List StagingWord) (s : State) :
    (keepOrHand n ks s).drawPart = s.drawPart := by
  unfold keepOrHand; split
  · exact setWaiting_drawPart s n _
  · exact handStaging_drawPart n ks s

theorem takeRead_drawPart (n : SlotId) (tag : Byte) (addr : Word) (count : Nat) (s : State) :
    (takeRead n tag addr count s).1.drawPart = s.drawPart := by
  have hlatch : ∀ b : Bool, (if b then takeLatch n s else s).drawPart = s.drawPart := fun b => by cases b <;> rfl
  have hmarks : ∀ (ks : List Nat) (t : State), (takeMarks n ks t).drawPart = t.drawPart := fun _ _ => rfl
  unfold takeRead; dsimp only
  refine (recordWorst_drawPart n _ _).trans ((setWaiting_drawPart _ n _).trans ((hmarks _ _).trans ?_))
  exact (modLink_drawPart _ n _).trans (hlatch _)

/-! ## The control shadow (chapter 13) -/

/-- A setting of the global record is neither a budget nor a point's record. -/
theorem judgeSetting_drawPart (k : Nat) (w : Word) (s : State) :
    State.drawPart { s with cfg := judgeSetting s.cfg k w } = s.drawPart := by
  have h : (judgeSetting s.cfg k w).mains = s.cfg.mains ∧ (judgeSetting s.cfg k w).battery = s.cfg.battery ∧
      (judgeSetting s.cfg k w).points = s.cfg.points := by
    unfold judgeSetting; split <;> exact ⟨rfl, rfl, rfl⟩
  obtain ⟨hmains, hbattery, hpoints⟩ := h
  exact drawPart_cfg s hmains hbattery hpoints

theorem takeQueueWord_drawPart (q : QueueId) (k : Nat) (be : Mask) (w : Word) (s : State) :
    (takeQueueWord q k be w s).drawPart = s.drawPart := by
  unfold takeQueueWord; split_ifs
  · split
    · exact takeOpen_drawPart q s
    · exact takeClose_drawPart q s
    · rfl
  · exact drawPart_cfg s rfl rfl rfl
  · rfl

theorem takeGroupWord_drawPart (g : GroupId) (k : Nat) (w : Word) (s : State) :
    (takeGroupWord g k w s).drawPart = s.drawPart := by
  unfold takeGroupWord; dsimp only; split
  · rfl
  · exact drawPart_cfg s rfl rfl rfl

theorem takeLogBase_drawPart (w : Word) (s : State) : (takeLogBase w s).drawPart = s.drawPart := by
  unfold takeLogBase; dsimp only; split
  · rfl
  · exact drawPart_cfg s rfl rfl rfl

theorem takeLogCode_drawPart (w : Word) (s : State) : (takeLogCode w s).drawPart = s.drawPart := by
  have hcfg : ∀ k, State.drawPart { s with cfg := { s.cfg with logCode := k } } = s.drawPart := fun _ => drawPart_cfg s rfl rfl rfl
  have hlog : ∀ k l, State.drawPart { s with cfg := { s.cfg with logCode := k }, log := l } = s.drawPart := fun k l =>
    (drawPart_log { s with cfg := { s.cfg with logCode := k } } l).trans (hcfg k)
  unfold takeLogCode; dsimp only; split_ifs
  · rfl
  · exact hlog _ _
  · exact hcfg _

theorem takeLogRead_drawPart (w : Word) (s : State) : (takeLogRead w s).drawPart = s.drawPart := by
  unfold takeLogRead; split
  · rfl
  · exact drawPart_cfg s rfl rfl rfl

theorem forceRelays_drawPart (mask : Nat) (f : Force) (s : State) : (forceRelays mask f s).drawPart = s.drawPart :=
  (drawPart_relays _ _).trans (drawPart_relays s _)

theorem takeRelayConfig_drawPart (k : RelayId) (w : Word) (s : State) : (takeRelayConfig k w s).drawPart = s.drawPart :=
  (drawPart_relays _ _).trans (drawPart_cfg s rfl rfl rfl)

/-- A slot record's word sets the draw that the next admission commits, not the one that is committed (R150). -/
theorem takeSlotWord_drawsFall (n : SlotId) (k : Nat) (be : Mask) (w : Word) (s : State) :
    DrawsFall s (takeSlotWord n k be w s).1 := by
  have hcfg : ∀ v, DrawsFall s { s with cfg := { s.cfg with slots := v } } := fun _ => .same (drawPart_cfg s rfl rfl rfl)
  unfold takeSlotWord; dsimp only; split
  · split
    · exact (hcfg _).trans (policyActs_drawsFall n _ _)
    · exact hcfg _
  · exact hcfg _
  · exact takeSlotCommand_drawsFall n w s
  · exact .refl s

/-- A point's debounce word leaves its shed-trigger mark (R159). -/
theorem setPointCfg_drawPart (p : PointId) {k : Nat} (hk : k ≠ 0) (w : Word) (s : State) :
    (setPointCfg p k w s).drawPart = s.drawPart := by
  have hmark : (judgePoint s.cfg.points[p] k w).shedTrigger = s.cfg.points[p].shedTrigger := by
    unfold judgePoint; split
    · exact absurd rfl hk
    · rfl
  refine drawPart_iff.2 ⟨rfl, rfl, Prod.ext rfl (funext fun m => ?_)⟩
  show (s.cfg.points.set p (judgePoint s.cfg.points[p] k w))[m].shedTrigger = s.cfg.points[m].shedTrigger
  by_cases h : p = m
  · subst h; simpa using hmark
  · have hval : p.val ≠ m.val := fun e => h (Fin.ext e)
    simp [hval]

/-- A write of a point's mark or enable tells the admission unit of the shed triggers it changes (R149, R165). -/
theorem takePointWord_budget (p : PointId) (k : Nat) (w : Word) (s : State) : KeepsBudget s (takePointWord p k w s).1 := by
  unfold takePointWord; split
  · have hacts := pointActs_reportPart p s.cfg.points[p] (judgePoint s.cfg.points[p] k w) (setPointCfg p k w s)
    exact tellShed_budget (fun hs => withinBudget_of_reportPart (s := setPointCfg p k w s) hacts (withinBudget_of_adm rfl rfl hs))
      (onBattery_of_reportPart (s := setPointCfg p k w s) hacts)
  · rename_i hk
    exact .same (setPointCfg_drawPart p hk w s)

theorem takeAckWord_budget (w : Word) (s : State) : KeepsBudget s (takeAckWord w s).1 :=
  foldEff_budget (fun p t => tellShed_budget_of_reportPart (ackPoint_reportPart p t)) _ s

/-- Written budgets are formed at once; they do not touch the shed triggers (R155). -/
theorem judgeBudgets_budget (w : Word) (s : State) :
    KeepsBudget s (formBudget { s with cfg := judgeBudgets s.cfg w }).1 :=
  ⟨fun _ => formBudget_within _, fun hs => formBudget_follows (budgetFollows_of_triggers rfl rfl hs)⟩

/-- Of the global record's words, ACK and the budgets alone reach what the invariants speak of (R149, R164). -/
theorem takeGlobalWord_budget (k : Nat) (w : Word) (s : State) : KeepsBudget s (takeGlobalWord k w s).1 := by
  unfold takeGlobalWord; split
  · dsimp only; split
    · exact .same (takeWarm_drawPart s)
    · exact .refl s
  · exact takeAckWord_budget w s
  · dsimp only; split
    · exact .same (takeScanNow_drawPart s)
    · exact .refl s
  · dsimp only; split
    · exact .same (drawPart_time s _)
    · exact .refl s
  · exact .same (forceRelays_drawPart _ _ s)
  · exact .same (forceRelays_drawPart _ _ s)
  · exact .same (forceRelays_drawPart _ _ s)
  · exact judgeBudgets_budget w s
  · exact .same (takeRefConfig_drawPart 0 _ _ s)
  · exact .same (takeRefConfig_drawPart 1 _ _ s)
  · exact .same (drawPart_cfg s rfl rfl rfl)
  · exact .same (takeLogBase_drawPart w s)
  · exact .same (takeLogCode_drawPart w s)
  · exact .same (takeLogRead_drawPart w s)
  · split_ifs
    · exact .same (takeChannelConfig_drawPart _ _ s)
    · exact .same (takeRelayConfig_drawPart _ w s)
    · exact .same (judgeSetting_drawPart _ w s)

/-- A region word taken, whatever its record (R191). -/
theorem takeRegion_budget (idx : RegionIdx) (d : Word) (be : Mask) (s : State) :
    KeepsBudget s (takeRegion idx d be s).1 := by
  unfold takeRegion takeFormed; split
  · exact takeGlobalWord_budget _ _ s
  · exact (takeSlotWord_drawsFall _ _ _ _ s).keeps
  · exact .same (drawPart_cfg s rfl rfl rfl)
  · exact .same (takeQueueWord_drawPart _ _ _ _ s)
  · exact .same (takeGroupWord_drawPart _ _ _ s)
  · exact takePointWord_budget _ _ _ s
  · exact .refl s

/-! ## The words of a WRITE (R27) -/

theorem showRegion_budget (n : SlotId) (sa : Word) (a : Nat) (d : Word) (be : Mask) (f : Bool) (s : State) :
    KeepsBudget s (showRegion n sa a d be f s).1 := by
  unfold showRegion; split_ifs
  · exact .refl s
  · exact .same (modAccess_drawPart s n _)
  · exact Eff.andThen_budget (takeRegion_budget _ d be s) fun t => .same (appendWord_drawPart n _ t)

theorem showIndex_drawPart (n : SlotId) (sa : Word) (a : Nat) (q : QueueId) (b : Bool) (d : Word) (be : Mask) (s : State) :
    (showIndex n sa a q b d be s).1.drawPart = s.drawPart := by
  have happend : ∀ (c : Bool) (w : WriteWord) (t : State), (if c then appendWord n w t else t).drawPart = t.drawPart :=
    fun c w t => by
      cases c
      · rfl
      · exact appendWord_drawPart n w t
  unfold showIndex; dsimp only
  refine Eff.andThen_keeps State.drawPart (judgeIndex_drawPart n q b _ s) fun t => ?_
  split
  · exact (modAccess_drawPart _ n _).trans (happend _ _ t)
  · exact happend _ _ t

theorem showWord_budget (n : SlotId) (sa : Word) (a : Nat) (d : Word) (be : Mask) (f : Bool) (s : State) :
    KeepsBudget s (showWord n sa a d be f s).1 := by
  unfold showWord; split
  · exact showRegion_budget n sa a d be f s
  · split
    · exact .same (showIndex_drawPart n sa a _ _ d be s)
    · exact .same (appendWord_drawPart n _ s)

theorem showWords_budget (n : SlotId) : ∀ (rs : List Routed) (f : Bool) (s : State),
    KeepsBudget s (showWords n rs f s).1
  | [], _, s => .refl s
  | .mem sa a d be :: rest, f, s => Eff.andThen_budget (showWord_budget n sa a d be f s) (showWords_budget n rest _)
  | .staging _ :: rest, f, s => showWords_budget n rest f s

theorem takeWrite_budget (n : SlotId) (addr : Word) (first last : Mask) (data : List Word) (s : State) :
    KeepsBudget s (takeWrite n addr first last data s).1 :=
  Eff.andThen_budget (.same (recordWorst_drawPart n _ s)) fun t =>
    Eff.andThen_budget (showWords_budget n _ false t) fun u => .same (keepOrHand_drawPart n _ u)

end Sys2Proof.Machine
end

section
/-! PROOF. Every command, and so every step, keeps the unmarked draws within the budget in force, and that budget following the
shed-trigger points. -/

namespace Sys2Proof.Machine

open Sys2Proof

/-! ## Commands that are taken only where a condition holds -/

theorem budget_if {p : Prop} [Decidable p] {s t : State} (h : KeepsBudget s t) : KeepsBudget s (if p then t else s) := by
  split
  · exact h
  · exact .refl s

theorem budget_event_if {p : Prop} [Decidable p] {act : State → Eff} {s : State} (h : KeepsBudget s (act s).1) :
    KeepsBudget s (if p then event act s else s) := budget_if (budget_event h)

/-- A command that answers a state to which both invariants are kept. -/
theorem budget_of_next {s u t : State} (hu : KeepsBudget s u) (h : (.next u : Out) = .next t) : KeepsBudget s t := by
  cases h; exact hu

/-! ## READs and WRITEs taken -/

theorem takeHeadRead_budget (n : SlotId) (s : State) : KeepsBudget s (takeHeadRead n s) := by
  unfold takeHeadRead; split
  · exact budget_event (.same (takeRead_drawPart n _ _ _ s))
  · exact .refl s

theorem takeHeadWrite_budget (n : SlotId) (s : State) : KeepsBudget s (takeHeadWrite n s) := by
  unfold takeHeadWrite; split
  · exact (KeepsBudget.same (modLink_drawPart s n popFrame)).trans (budget_event (takeWrite_budget n _ _ _ _ _))
  · exact .refl s

theorem sendWrite_budget (o : Origin) (d : Word) (be : Mask) (s : State) : KeepsBudget s (sendWrite o d be s) :=
  (KeepsBudget.same (modLink_drawPart s o.slot _)).trans (takeHeadWrite_budget o.slot _)

theorem armWrite_budget (o : Origin) (g : GroupId) (d : Word) (be : Mask) (s : State) :
    KeepsBudget s (armWrite o g d be s) := budget_if (sendWrite_budget o d be s)

theorem regionWrite_budget (o : Origin) (idx : RegionIdx) (d : Word) (be : Mask) (s : State) :
    KeepsBudget s (regionWrite o idx d be s) := budget_if (sendWrite_budget o d be s)

theorem wordWrite_budget (o : Origin) (idx : RegionIdx) (d : Word) (s : State) : KeepsBudget s (wordWrite o idx d s) :=
  regionWrite_budget o idx d _ s

theorem fieldWrite_budget (o : Origin) (idx : RegionIdx) (lo len v : Nat) (s : State) :
    KeepsBudget s (fieldWrite o idx lo len v s) := wordWrite_budget o idx _ s

theorem slotFieldWrite_budget (o : Origin) (n : SlotId) (lo len v : Nat) (be : Mask) (s : State) :
    KeepsBudget s (slotFieldWrite o n lo len v be s) := regionWrite_budget o _ _ be s

/-! ## Every command -/

/-- COLD_RESET clears every draw (R150). -/
theorem cold_withinBudget (x : Straps) (m : Memory) (p : List Instr) : (State.cold x m p).WithinBudget := by
  refine withinBudget_of_none_sheddable fun n => ?_
  have hadm : (State.cold x m p).adm[n] = Admission.cold := Vector.getElem_replicate _
  rw [hadm]; rfl

/-- COLD_RESET puts the mains budget in force and leaves no point a shed trigger (R149, R159). -/
theorem cold_budgetFollows (x : Straps) (m : Memory) (p : List Instr) : (State.cold x m p).BudgetFollows := by
  rw [budgetFollows_iff, shedTriggered_of_noTrigger fun q => ?_]
  · rfl
  · show (Vector.ofFn PointCfg.cold)[q].shedTrigger = false
    rw [ofFn_get]; rfl

theorem exec_budget {c : Instr} {s t : State} (h : exec c s = .next t) : KeepsBudget s t := by
  cases c with
  | coldReset x => cases h; exact ⟨fun _ => cold_withinBudget x _ _, fun _ => cold_budgetFollows x _ _⟩
  -- writes of one word of the control region or of an arm word
  | warmReset | secondsLoad | openQueue | closeQueue | powerOn | removeSlot | clearLockout | ackPoint | ackAll | relayOn
  | relayOff | relayFollow | relayConfigWrite | scanNow | channelConfigWrite | logReadIndexWrite | windowRecordWrite =>
    exact budget_of_next (wordWrite_budget _ _ _ s) h
  | referenceEnableWrite | referencePriorityWrite | pointEnableWrite | pointLatchedWrite | pointSeverityWrite
  | pointRelayMarksWrite | pointShedTriggerWrite | senseModeWrite =>
    exact budget_of_next (fieldWrite_budget _ _ _ _ _ s) h
  | slotPolicyWrite | slotDrawWrite | shedPriorityWrite | controlRightWrite =>
    exact budget_of_next (slotFieldWrite_budget _ _ _ _ _ _ s) h
  | controlRegionWrite o idx data enables => exact budget_of_next (regionWrite_budget o idx data enables s) h
  | queueDescriptorWrite o q field =>
    refine budget_of_next ?_ h
    cases field with
    | base => exact wordWrite_budget o _ _ s
    | cellSize | cellCount | producer | consumer => exact fieldWrite_budget o _ _ _ _ s
    | high | low => exact regionWrite_budget o _ _ _ s
  | groupConfigWrite o g field =>
    refine budget_of_next ?_ h
    cases field with
    | base => exact wordWrite_budget o _ _ s
    | valid | size => exact fieldWrite_budget o _ _ _ _ s
  | budgetWrite o field =>
    refine budget_of_next ?_ h
    cases field <;> exact fieldWrite_budget o _ _ _ _ s
  | logConfigWrite o field =>
    refine budget_of_next ?_ h
    cases field <;> exact wordWrite_budget o _ _ s
  | armGroup | disarmGroup | discardGroup => exact budget_of_next (armWrite_budget _ _ _ _ s) h
  | armWordIgnored o g data enables => exact budget_of_next (budget_if (armWrite_budget o g data enables s)) h
  -- resets, start-up and time
  | coldStartUpWriteComplete =>
    revert h; show execColdStartUpWriteComplete s = _ → _
    unfold execColdStartUpWriteComplete; split
    · exact budget_of_next (budget_event (.same (completeStartUp_drawPart _ s)))
    · exact budget_of_next (.refl s)
  | warmResetCarriedOut => exact budget_of_next (.same (warmIfDue_drawPart s)) h
  | localOscillatorPeriod order => exact budget_of_next (budget_event (.same (takePeriod_drawPart order s))) h
  | continuousFrameTick order => exact budget_of_next (budget_event_if (.same (takePeriod_drawPart order s))) h
  | pulseEvent r order => exact budget_of_next (budget_event (.same (takePulse_drawPart r order s))) h
  | missTimerExpiry r => exact budget_of_next (budget_event_if (.same (takeMiss_drawPart r s))) h
  | holdoverTimerExpiry => exact budget_of_next (budget_event_if (.same (takeHoldSecond_drawPart s))) h
  | referenceLineEdge r rising => exact budget_of_next (.same (lineEdge_drawPart r rising s)) h
  -- links
  | readFrameArrival n | writeFrameArrival n =>
    refine budget_of_next ?_ h
    split
    · exact .same (modLink_drawPart s n _)
    · exact .same (failedFrame_drawPart n s)
  | readyToFenceArrival n | idleArrival n | transmitFrameEnd n => exact budget_of_next (.same (modLink_drawPart s n _)) h
  | echoReplyArrival n seq turnaround =>
    exact budget_of_next (budget_event (replyArrives_drawsFall n seq turnaround.toNat s).keeps) h
  | frameCheckFailed n => exact budget_of_next (.same (failedFrame_drawPart n s)) h
  | echoReplyTimerExpiry n | errorWindowEnd n =>
    exact budget_of_next (budget_event_if (.same (modLink_drawPart s n _))) h
  | echoCadenceDue n | sendGo n | sendHold n | sendEcho n | sendData n | sendIdle n =>
    exact budget_of_next (budget_if (.same (modLink_drawPart s n _))) h
  | sendNotice n => exact budget_of_next (budget_if (.same (beginNotice_drawPart n s))) h
  | resyncAdd n => exact budget_of_next (.same (modList_drawPart s n _)) h
  -- windows and the memory port
  | windowTakeRead n => exact budget_of_next (takeHeadRead_budget n s) h
  | windowTakeWrite n => exact budget_of_next (takeHeadWrite_budget n s) h
  | readyToFenceTaken n => exact budget_of_next (budget_event_if (handFence_drawsFall n s).keeps) h
  | timeWord0Read n | statusMarkRead n => exact budget_of_next (budget_if (takeHeadRead_budget n s)) h
  | heldReadRelease n => exact budget_of_next (.same (setWaiting_drawPart s n _)) h
  | memoryGrant => exact budget_of_next (.same (takeGrant_drawPart s)) h
  | slotReadComplete =>
    revert h; show execSlotReadComplete s = _ → _
    unfold execSlotReadComplete; split
    · exact budget_of_next (.same (completeRead_drawPart _ _ _ s))
    · exact budget_of_next (.refl s)
  | slotWriteComplete =>
    revert h; show execSlotWriteComplete s = _ → _
    unfold execSlotWriteComplete; split
    · exact budget_of_next (.same (completeWrite_drawPart _ s))
    · exact budget_of_next (.refl s)
  | logWriteComplete =>
    revert h; show execLogWriteComplete s = _ → _
    unfold execLogWriteComplete; split
    · exact budget_of_next (.same (completeLog_drawPart _ s))
    · exact budget_of_next (.refl s)
  -- queues and staging
  | queueZeroingOffer => exact budget_of_next (.same (offerZeroing_drawPart s)) h
  | zeroingComplete =>
    revert h; show execZeroingComplete s = _ → _
    unfold execZeroingComplete; split
    · exact budget_of_next (budget_event (.same (completeZeroing_drawPart _ _ s)))
    · exact budget_of_next (.refl s)
  | commitRoundStart =>
    revert h; show execCommitRoundStart s = _ → _
    unfold execCommitRoundStart; split
    · exact budget_of_next (budget_event (.same (serveRound_drawPart _ s)))
    · exact budget_of_next (.refl s)
  | commitTransactionComplete =>
    revert h; show execCommitTransactionComplete s = _ → _
    unfold execCommitTransactionComplete; split
    · exact budget_of_next (budget_event (.same (completeCommit_drawPart _ s)))
    · exact budget_of_next (.refl s)
  -- slots
  | slotLineSample n lines | presentDebounced n lines | latchDebounced n lines | pgoodSteady n lines | pgoodLost n lines =>
    exact budget_of_next (budget_event_if (sampleSlot_drawsFall n lines s).keeps) h
  | rampTimerExpiry n | linkTimerExpiry n | realignLimitExpiry n =>
    exact budget_of_next (budget_event_if (takeFaulted_drawsFall n _ s).keeps) h
  | drainTimerExpiry n => exact budget_of_next (budget_event_if (takeFence_drawsFall n s).keeps) h
  | powerDownTimerExpiry n => exact budget_of_next (budget_event_if (takePowerDown_drawsFall n s).keeps) h
  | backoffTimerExpiry n => exact budget_of_next (budget_event_if (takeBackoff_drawsFall n s).keeps) h
  | admitHead | readmitHead => exact budget_of_next (budget_event_if (.refl s)) h
  -- alarm points and the environment
  | raiseDebounceExpiry p =>
    exact budget_of_next (budget_event_if (tellShed_budget_of_reportPart (raisePoint_reportPart p _ s))) h
  | clearDebounceExpiry p =>
    exact budget_of_next (budget_event_if (tellShed_budget_of_reportPart (clearPoint_reportPart p s))) h
  | contactSample =>
    have hcontacts : ∀ c d, State.drawPart { s with contacts := c, contactDue := d } = s.drawPart := fun _ _ => rfl
    exact budget_of_next (budget_event_if (.same (hcontacts _ _))) h
  | scanIntervalExpiry => exact budget_of_next (budget_if (.same (takeInterval_drawPart s))) h
  | conversionComplete vin vref =>
    revert h; show execConversionComplete vin vref s = _ → _
    unfold execConversionComplete; split
    · exact budget_of_next (budget_event_if (.same (takeResult_drawPart _ _ s)))
    · exact budget_of_next (.refl s)

/-- Settles O7: draws grow by an admission alone, and the slot admitted fits the budget in force with all that is committed; the
budget in force moves where it is formed anew alone, by a written budget or by a change of the shed triggers, and then slots are
marked until the unmarked draws lie within it. The shed triggers move by the alarm unit's acts and by writes of point records alone,
after each of which the admission unit is told. -/
theorem drawsStayWithinBudget : Obligations.DrawsStayWithinBudget := by
  refine ⟨⟨cold_withinBudget _ _ _, fun s t hs h => ?_⟩, cold_budgetFollows _ _ _, fun s t hs h => ?_⟩
  · rcases step_cases h with rfl | ⟨c, rest, hc⟩
    · exact hs
    · exact (exec_budget hc).within hs
  · rcases step_cases h with rfl | ⟨c, rest, hc⟩
    · exact hs
    · exact (exec_budget hc).follows hs

end Sys2Proof.Machine
end

section
/-! SUPPORT. R167 at one point (`Point.Sound`) and the alarm unit's changes of a point that keep it; and what an act may do to the
points, said once: `PointsSound s t` holds where sound points stay sound, and every other block's act leaves the points as they
are. -/

namespace Sys2Proof.Machine

open Sys2Proof

/-! ## One point -/

/-- A point that is acknowledged is active (R167). -/
def Point.Sound (x : Point) : Prop := x.acked = true → active x = true

theorem ackedActive_iff (s : State) : s.AckedActive ↔ ∀ p : PointId, s.points[p].Sound := Iff.rfl

/-- A point whose acked flag is clear is sound, whatever its state. -/
theorem Point.sound_of_unacked {x : Point} (h : x.acked = false) : x.Sound := fun ha => by rw [h] at ha; cases ha

/-- So is a point that is active. -/
theorem Point.sound_of_active {x : Point} (h : active x = true) : x.Sound := fun _ => h

/-- A sound point that is not active is not acknowledged. -/
theorem Point.Sound.unacked {x : Point} (hx : x.Sound) (h : active x = false) : x.acked = false := by
  cases ha : x.acked with
  | false => rfl
  | true => rw [hx ha] at h; cases h

theorem active_of_raised {x : Point} (h : x.state = .raised) : active x = true := decide_eq_true (.inl h)
theorem active_of_falling {x : Point} (h : x.state = .falling) : active x = true := decide_eq_true (.inr h)
theorem inactive_of_clear {x : Point} (h : x.state = .clear) : active x = false := by simp [active, h]
theorem inactive_of_rising {x : Point} (h : x.state = .rising) : active x = false := by simp [active, h]

/-- Soundness looks at the state and the acked flag alone. -/
theorem Point.Sound.of_eq {x y : Point} (hx : x.Sound) (hst : y.state = x.state) (hack : y.acked = x.acked) : y.Sound := by
  unfold Point.Sound active at *
  rwa [hst, hack]

/-! ## All points, along a change -/

/-- From s to t sound points stay sound. -/
def PointsSound (s t : State) : Prop := s.AckedActive → t.AckedActive

theorem PointsSound.refl (s : State) : PointsSound s s := id

theorem PointsSound.trans {s t u : State} (h : PointsSound s t) (k : PointsSound t u) : PointsSound s u := k ∘ h

/-- A change that leaves the points as they are. -/
theorem PointsSound.same {s t : State} (h : t.points = s.points) : PointsSound s t := fun hs p => by
  rw [h]; exact hs p

theorem Eff.andThen_sound {s : State} {e : Eff} {f : State → Eff} (he : PointsSound s e.1) (hf : ∀ t, PointsSound t (f t).1) :
    PointsSound s (e.andThen f).1 := he.trans (hf _)

theorem foldEff_sound {α : Type} {f : α → State → Eff} (h : ∀ a t, PointsSound t (f a t).1) :
    ∀ (l : List α) (s : State), PointsSound s (foldEff f l s).1
  | [], s => .refl s
  | a :: l, s => (h a s).trans (foldEff_sound h l (f a s).1)

/-- A change of one point that leaves it sound. -/
theorem modPoint_sound {p : PointId} {f : Point → Point} {s : State} (h : s.points[p].Sound → (f s.points[p]).Sound) :
    PointsSound s (s.modPoint p f) := fun hs q => by
  rw [State.modPoint_get]; split
  · rename_i hq; subst hq; exact h (hs p)
  · exact hs q

/-- So with the change's reports (R166). -/
theorem changePoint_sound {p : PointId} {f : Point → Point} {s : State} (ch : Option Change)
    (h : s.points[p].Sound → (f s.points[p]).Sound) : PointsSound s (changePoint p f ch s).1 :=
  (modPoint_sound h).trans (.same (changePoint_points p f ch s))

/-! ## The point states (section 10.2) -/

/-- The entry to RAISED clears the acked flag (R163). -/
theorem raisePoint_sound (p : PointId) (ch : Change) (s : State) : PointsSound s (raisePoint p ch s).1 :=
  changePoint_sound _ fun _ => Point.sound_of_unacked rfl

/-- So does the return to CLEAR (R162). -/
theorem clearPoint_sound (p : PointId) (s : State) : PointsSound s (clearPoint p s).1 :=
  changePoint_sound _ fun _ => Point.sound_of_unacked rfl

/-- An acknowledged point may go to FALLING, where it is active (R162). -/
theorem fallPoint_sound (p : PointId) (s : State) : PointsSound s (fallPoint p s).1 := by
  unfold fallPoint; split
  · exact clearPoint_sound p s
  · exact changePoint_sound _ fun _ => Point.sound_of_active (active_of_falling rfl)

/-- CLEAR goes to RISING with the acked flag it has, which is clear (R161); FALLING returns to RAISED with its own (R162). -/
theorem judgePresent_sound (p : PointId) (s : State) : PointsSound s (judgePresent p s).1 := by
  unfold judgePresent; split
  · rename_i hclear
    split
    · exact raisePoint_sound p _ s
    · exact changePoint_sound _ fun hx => Point.sound_of_unacked (hx.unacked (inactive_of_clear hclear))
  · exact .refl s
  · exact .refl s
  · exact changePoint_sound _ fun _ => Point.sound_of_active (active_of_raised rfl)

/-- RISING returns to CLEAR with the acked flag it has, which is clear. -/
theorem risingClears_sound {p : PointId} {s : State} (hrising : s.points[p].state = .rising) :
    PointsSound s (changePoint p (fun q => { q with state := .clear, timer := none }) none s).1 :=
  changePoint_sound _ fun hx => Point.sound_of_unacked (hx.unacked (inactive_of_rising hrising))

theorem judgeAbsent_sound (p : PointId) (s : State) : PointsSound s (judgeAbsent p s).1 := by
  unfold judgeAbsent; split
  · exact .refl s
  · exact risingClears_sound ‹_›
  · split
    · exact fallPoint_sound p s
    · exact .refl s
  · exact .refl s

/-- The condition record is not part of soundness. -/
theorem setCond_sound (p : PointId) (b : Bool) (s : State) : PointsSound s (setCond p b s).1 := by
  have hcond : PointsSound s (s.modPoint p fun q => { q with cond := b }) := modPoint_sound fun hx => hx.of_eq rfl rfl
  unfold setCond; dsimp only; split_ifs
  · exact hcond.trans (judgePresent_sound p _)
  · exact hcond.trans (judgeAbsent_sound p _)
  · exact hcond

theorem takeCond_sound (p : PointId) (b : Bool) (s : State) : PointsSound s (takeCond p b s).1 := by
  unfold takeCond; split
  · exact .refl s
  · exact setCond_sound p b s

theorem takeEvent_sound (p : PointId) (s : State) : PointsSound s (takeEvent p s).1 := by
  unfold takeEvent; split
  · split <;> exact raisePoint_sound p _ s
  · exact .refl s

theorem takeLogLoss_sound (s : State) : PointsSound s (takeLogLoss s).1 := by
  unfold takeLogLoss; split
  · exact .refl s
  · exact takeEvent_sound 57 s

theorem inputAct_sound (i : Input) (s : State) : PointsSound s (inputAct i s).1 := by
  cases i with
  | event p => exact takeEvent_sound p s
  | cond p b => exact takeCond_sound p b s
  | recond p b => exact setCond_sound p b s
  | logLoss => exact takeLogLoss_sound s

/-! ## Acknowledgement and disabling (section 10.3) -/

theorem releasePoint_sound (p : PointId) (s : State) : PointsSound s (releasePoint p s).1 := by
  unfold releasePoint; split
  · exact fallPoint_sound p s
  · exact .refl s

/-- The acked flag is set at an active point alone (R164). -/
theorem ackPoint_sound (p : PointId) (s : State) : PointsSound s (ackPoint p s).1 := by
  unfold ackPoint; split
  · rename_i hack
    simp only [Bool.and_eq_true] at hack
    obtain ⟨⟨_, hactive⟩, _⟩ := hack
    exact Eff.andThen_sound (changePoint_sound _ fun _ => Point.sound_of_active hactive) (releasePoint_sound p)
  · exact .refl s

theorem disablePoint_sound (p : PointId) (s : State) : PointsSound s (disablePoint p s).1 := by
  unfold disablePoint; split_ifs with _ hrising
  · exact clearPoint_sound p s
  · exact risingClears_sound hrising
  · exact .refl s

/-- What a write of a point's record does to the point (R165). -/
theorem pointActs_sound (p : PointId) (old new : PointCfg) (s : State) : PointsSound s (pointActs p old new s).1 := by
  unfold pointActs; split_ifs
  · exact disablePoint_sound p s
  · exact judgePresent_sound p s
  · exact .refl s
  · exact .refl s
  · exact judgeAbsent_sound p s
  · exact .refl s

end Sys2Proof.Machine
end

section
/-! SUPPORT. The swap sequencer's and the admission unit's operations leave the points as they are (what they hand the alarm unit
waits for the event's end), and so the alarm unit's inputs, with all that follows from them, keep sound points sound. -/

namespace Sys2Proof.Machine

open Sys2Proof

/-! ## Notices and links -/

@[simp] theorem handAll_points (ns : List SlotId) (id : NoticeId) (d : SlotId → Details) (s : State) :
    (handAll ns id d s).1.points = s.points := foldEff_keeps State.points (fun n t => handNotice_points n id (d n) t) ns s

@[simp] theorem handCommitDone_points (g : GroupId) (r : CommitResult) (k : Nat) (s : State) :
    (handCommitDone g r k s).1.points = s.points := handAll_points _ _ _ s

@[simp] theorem queueNotice_points (k : QueueNotice) (q : QueueId) (m : Nat) (s : State) :
    (queueNotice k q m s).1.points = s.points := by
  unfold queueNotice; split
  · exact handNotice_points _ _ _ s
  · rfl

@[simp] theorem withdrawRead_points (n : SlotId) (s : State) : (withdrawRead n s).points = s.points := by
  unfold withdrawRead; split <;> rfl

@[simp] theorem withdrawStale_points (s : State) : (withdrawStale s).points = s.points := by
  unfold withdrawStale; split
  · split <;> rfl
  · rfl

@[simp] theorem fenceLink_points (n : SlotId) (s : State) : (fenceLink n s).points = s.points := withdrawRead_points n s

theorem switchLink_points (n : SlotId) (a b : SwapState) (s : State) : (switchLink n a b s).1.points = s.points := by
  unfold switchLink; split_ifs
  · rfl
  · rfl
  · exact withdrawRead_points n s

/-! ## A slot's change of swap state (chapter 8) -/

@[simp] theorem clearDraw_points (n : SlotId) (s : State) : (clearDraw n s).points = s.points := rfl
@[simp] theorem startTimer_points (n : SlotId) (ms : Nat) (s : State) : (startTimer n ms s).points = s.points := rfl
@[simp] theorem attachSlot_points (n : SlotId) (s : State) : (attachSlot n s).points = s.points := by
  unfold attachSlot; rfl

theorem detachSlot_points (n : SlotId) (s : State) : (detachSlot n s).1.points = s.points := by
  rw [detachSlot_eq]
  refine (foldEff_keeps State.points (fun q t => ?_) _ _).trans (withdrawStale_points _)
  unfold detachNotice; split
  · rfl
  · exact queueNotice_points _ _ _ t

theorem purgeSlot_points (n : SlotId) (s : State) : (purgeSlot n s).points = s.points := by unfold purgeSlot; rfl

theorem teardown_points (n : SlotId) (s : State) : (teardown n s).1.points = s.points :=
  (detachSlot_points n _).trans ((clearDraw_points n _).trans ((purgeSlot_points n _).trans (State.modList_points s n _)))

theorem moveSlot_points (n : SlotId) (st : SwapState) (r : Reason) (s : State) : (moveSlot n st r s).1.points = s.points := by
  have hswitched : (s.switched n st r).points = s.points := switchLink_points n _ st _
  rw [moveSlot_fst]; split
  · exact (teardown_points n _).trans hswitched
  · exact hswitched

/-- A change of swap state leaves the points alone where its own effects do. -/
theorem changeSwap_points (n : SlotId) (st : SwapState) (r c : Reason) {own : State → State}
    (ho : ∀ t, (own t).points = t.points) (s : State) : (changeSwap n st r c own s).1.points = s.points :=
  (handAll_points _ _ _ _).trans ((ho _).trans (moveSlot_points n st r s))

@[simp] theorem enterOff_points (n : SlotId) (c : Reason) (s : State) : (enterOff n c s).1.points = s.points :=
  changeSwap_points n _ _ _ (clearDraw_points n) s

@[simp] theorem enterSeated_points (n : SlotId) (s : State) : (enterSeated n s).1.points = s.points :=
  changeSwap_points (own := id) n _ _ _ (fun _ => rfl) s

@[simp] theorem enterPowering_points (n : SlotId) (s : State) : (enterPowering n s).1.points = s.points :=
  changeSwap_points n _ _ _ (by intro t; rfl) s

@[simp] theorem takeSeat_points (n : SlotId) (s : State) : (takeSeat n s).1.points = s.points := by
  refine Eff.andThen_keeps State.points (enterSeated_points n s) fun t => ?_
  split
  · exact enterOff_points n _ t
  · rfl

theorem admitSlot_points (n : SlotId) (s : State) : (admitSlot n s).1.points = s.points := by
  unfold admitSlot; split
  · exact Eff.andThen_keeps State.points (enterSeated_points n s) (enterPowering_points n)
  · exact enterPowering_points n s

@[simp] theorem takeRampEnd_points (n : SlotId) (s : State) : (takeRampEnd n s).1.points = s.points :=
  changeSwap_points n _ _ _ (fun t => startTimer_points n t.cfg.linkTimeout t) s

@[simp] theorem takeActivate_points (n : SlotId) (s : State) : (takeActivate n s).1.points = s.points := by
  refine changeSwap_points n _ _ _ (fun t => ?_) s
  dsimp only; split <;> simp

@[simp] theorem takeTurnOff_points (n : SlotId) (c : Reason) (s : State) : (takeTurnOff n c s).1.points = s.points := by
  refine Eff.andThen_keeps State.points (enterOff_points n c s) fun t => ?_
  split
  · exact takeSeat_points n t
  · rfl

theorem takePowerDown_points (n : SlotId) (s : State) : (takePowerDown n s).1.points = s.points := takeTurnOff_points n _ s

@[simp] theorem takeFence_points (n : SlotId) (s : State) : (takeFence n s).1.points = s.points := by
  unfold takeFence
  refine Eff.andThen_keeps State.points
    ((changeSwap_points n _ _ _ (fun t => startTimer_points n t.cfg.powerDownDelay t) _).trans (fenceLink_points n s)) fun t => ?_
  split
  · exact takePowerDown_points n t
  · rfl

@[simp] theorem takeQuiesce_points (n : SlotId) (c : Reason) (s : State) : (takeQuiesce n c s).1.points = s.points := by
  refine Eff.andThen_keeps State.points
    (changeSwap_points n _ _ _ (fun t => startTimer_points n t.cfg.drainTimeout t) s) fun t => ?_
  split
  · exact takeFence_points n t
  · rfl

@[simp] theorem takeFaulted_points (n : SlotId) (c : Reason) (s : State) : (takeFaulted n c s).1.points = s.points :=
  changeSwap_points n _ _ _ (by intro t; simp) s

theorem takeLockOut_points (n : SlotId) (s : State) : (takeLockOut n s).1.points = s.points :=
  changeSwap_points (own := id) n _ _ _ (fun _ => rfl) s

@[simp] theorem takeUnseat_points (n : SlotId) (s : State) : (takeUnseat n s).1.points = s.points :=
  changeSwap_points n _ _ _ (clearDraw_points n) s

theorem takeLinkOpen_points (n : SlotId) (s : State) : (takeLinkOpen n s).1.points = s.points := by
  unfold takeLinkOpen; split
  · exact takeActivate_points n s
  · rfl
  · rfl
  · rfl

theorem takeBackoff_points (n : SlotId) (s : State) : (takeBackoff n s).1.points = s.points := by
  unfold takeBackoff; split
  · exact takeSeat_points n s
  · exact takeLockOut_points n s

/-! ## The slot lines, the slot commands and the policy (R127, R128, R130) -/

theorem judgePresentLine_points (n : SlotId) (b : Bool) (s : State) : (judgePresentLine n b s).1.points = s.points := by
  unfold judgePresentLine presentActs; dsimp only; split_ifs <;> simp

theorem judgeFaultLine_points (n : SlotId) (b : Bool) (s : State) : (judgeFaultLine n b s).1.points = s.points := by
  unfold judgeFaultLine; split <;> simp

theorem judgePgoodLine_points (n : SlotId) (b : Bool) (s : State) : (judgePgoodLine n b s).1.points = s.points := by
  unfold judgePgoodLine pgoodActs; split_ifs <;> simp

theorem judgeLatchLine_points (n : SlotId) (b : Bool) (s : State) : (judgeLatchLine n b s).1.points = s.points := by
  have hopens : ∀ t, (latchOpens n t).1.points = t.points := fun t => by unfold latchOpens; split <;> simp
  have hcloses : ∀ t, (latchCloses n t).1.points = t.points := fun t => by
    unfold latchCloses; split
    · split <;> simp
    · split <;> simp
    · rfl
  unfold judgeLatchLine; dsimp only; split_ifs
  · exact hcloses _
  · exact hopens _
  · rfl

theorem sampleSlot_points (n : SlotId) (l : Lines) (s : State) : (sampleSlot n l s).1.points = s.points :=
  Eff.andThen_keeps State.points (Eff.andThen_keeps State.points (Eff.andThen_keeps State.points
    (judgePresentLine_points n _ _) (judgeFaultLine_points n _)) (judgePgoodLine_points n _)) (judgeLatchLine_points n _)

theorem takeSlotCommand_points (n : SlotId) (w : Word) (s : State) : (takeSlotCommand n w s).1.points = s.points := by
  unfold takeSlotCommand; split
  · unfold takePowerOn; dsimp only; split <;> simp
  · unfold takeRemove; dsimp only; split <;> simp
  · unfold takeClearLockout; split <;> simp
  · rfl

theorem policyActs_points (n : SlotId) (old : Policy) (s : State) : (policyActs n old s).1.points = s.points := by
  unfold policyActs; split
  · split <;> simp
  · split <;> simp

/-! ## Shedding (R155, R156) -/

theorem markSheds_points (k : Nat) (s : State) : (markSheds k s).1.points = s.points := by
  induction k generalizing s with
  | zero => rfl
  | succ k ih =>
    unfold markSheds; split
    · split
      · exact ih _
      · rfl
    · rfl

theorem takeShed_points (n : SlotId) (s : State) : (takeShed n s).1.points = s.points := by
  unfold takeShed; split <;> simp

theorem formBudget_points (s : State) : (formBudget s).1.points = s.points :=
  (foldEff_keeps State.points takeShed_points _ _).trans (markSheds_points 12 s)

/-! ## The alarm unit's acts and events (R149) -/

/-- What the admission unit does after an act of the alarm unit leaves the points as the act left them. -/
theorem tellShed_points (act : State → Eff) (s : State) : (tellShed act s).1.points = (act s).1.points := by
  unfold tellShed; dsimp only; split
  · rfl
  · exact formBudget_points _

theorem tellShed_sound {act : State → Eff} {s : State} (h : PointsSound s (act s).1) : PointsSound s (tellShed act s).1 :=
  h.trans (.same (tellShed_points act s))

theorem takeInput_sound (i : Input) (s : State) : PointsSound s (takeInput i s).1 := tellShed_sound (inputAct_sound i s)

/-- An event keeps sound points sound where its own act does. -/
theorem sound_event {act : State → Eff} {s : State} (h : PointsSound s (act s).1) : PointsSound s (event act s) := fun hs =>
  event_keeps State.AckedActive takeInput_sound (fun n t _ => PointsSound.same (admitSlot_points n t)) (fun _ _ ht => ht) act s (h hs)

end Sys2Proof.Machine
end

section
/-! SUPPORT. The other blocks' operations. The millisecond divider moves the points' timers, and of the region words a point's record
and ACK reach the points; all else leaves them as they are. -/

namespace Sys2Proof.Machine

open Sys2Proof

/-! ## Links and queues (chapters 1 and 3) -/

theorem failedFrame_points (n : SlotId) (s : State) : (failedFrame n s).points = s.points := by
  unfold failedFrame; split
  · rfl
  · rfl
  · rfl
  · unfold loseAlignment; dsimp only; split_ifs <;> simp

theorem replyArrives_points (n : SlotId) (seq : BitVec 16) (k : Nat) (s : State) :
    (replyArrives n seq k s).1.points = s.points := by
  have hjudge : ∀ (e : Echo) (t : State), (judgeReply n e k t).1.points = t.points := fun e t => by
    unfold judgeReply; dsimp only; split_ifs
    · exact takeLinkOpen_points n _
    · rfl
    · rfl
  unfold replyArrives; split
  · rfl
  · rfl
  · rfl
  · dsimp only; split
    · split
      · exact hjudge _ _
      · rfl
    · rfl

theorem beginNotice_points (n : SlotId) (s : State) : (beginNotice n s).points = s.points := by
  unfold beginNotice; split <;> rfl

theorem handFence_points (n : SlotId) (s : State) : (handFence n s).1.points = s.points := by
  unfold handFence; split
  · exact takeFence_points n _
  · rfl

theorem takeOpen_points (q : QueueId) (s : State) : (takeOpen q s).points = s.points := by
  unfold takeOpen; dsimp only; split_ifs <;> rfl

theorem takeClose_points (q : QueueId) (s : State) : (takeClose q s).points = s.points := by
  have hwithdrawn : ∀ t : State, (withdrawZeroing q t).points = t.points := fun t => by unfold withdrawZeroing; split <;> rfl
  unfold takeClose; split
  · rfl
  · exact hwithdrawn _

theorem offerZeroing_points (s : State) : (offerZeroing s).points = s.points := by
  unfold offerZeroing; split
  · rfl
  · split <;> rfl

theorem judgeIndex_points (n : SlotId) (q : QueueId) (b : Bool) (new : Nat) (s : State) :
    (judgeIndex n q b new s).eff.1.points = s.points := by
  have hproducer : (producerAdvance q new s).1.points = s.points := by unfold producerAdvance; dsimp only; split <;> simp
  have hconsumer : (consumerAdvance q new s).1.points = s.points := by unfold consumerAdvance; dsimp only; split <;> simp
  have hoverrun : (producerOverrun q s).1.points = s.points := queueNotice_points _ _ _ _
  unfold judgeIndex; dsimp only; split_ifs
  · rfl
  · rfl
  · rfl
  · exact hproducer
  · exact hoverrun
  · rfl
  · rfl
  · exact hconsumer
  · rfl

theorem completeZeroing_points (q : QueueId) (base : Nat) (s : State) : (completeZeroing q base s).1.points = s.points := by
  have hready : ∀ t : State, (readyNotices q t).1.points = t.points := fun t => by
    unfold readyNotices; dsimp only; split <;> simp
  unfold completeZeroing zeroed; split
  · exact hready _
  · rfl

/-! ## Staging and the memory port (chapter 5, section 2.6) -/

theorem takeStagingWord_points (n : SlotId) (s : State) (k : StagingWord) : (takeStagingWord n s k).points = s.points := by
  cases k with
  | staged g a d be => unfold takeStagingWord takeStaged; dsimp only; split_ifs <;> rfl
  | arm g d be =>
    unfold takeStagingWord takeArmWord; dsimp only; split
    · split <;> rfl
    · rfl

theorem handStaging_points (n : SlotId) : ∀ (ks : List StagingWord) (s : State), (handStaging n ks s).points = s.points
  | [], _ => rfl
  | k :: rest, s => (handStaging_points n rest _).trans (takeStagingWord_points n s k)

theorem judgeHolds_points (s : State) : (judgeHolds s).points = s.points := rfl

theorem tickGroups_points (disc : Bool) (s : State) : (tickGroups disc s).1.points = s.points := by
  have hdue : ∀ (g : GroupId) (t : State), (takeDue g t).1.points = t.points := fun g t => by
    unfold takeDue; dsimp only; split
    · exact handCommitDone_points g _ _ _
    · rfl
  unfold tickGroups; split
  · refine foldEff_keeps State.points (fun g t => ?_) _ s
    split
    · exact handCommitDone_points g _ _ _
    · rfl
  · refine (judgeHolds_points _).trans (foldEff_keeps State.points (fun g t => ?_) _ s)
    split
    · exact hdue g t
    · rfl

/-- A WARM_RESET leaves the points alone (R194). -/
theorem carryOutWarm_points (s : State) : (carryOutWarm s).points = s.points := by
  simp only [carryOutWarm, warmStaging, emptyLists, closeQueues, warmLinks]

theorem takeWarm_points (s : State) : (takeWarm s).points = s.points := by
  unfold takeWarm; split
  · rfl
  · exact carryOutWarm_points s

theorem warmIfDue_points (s : State) : (warmIfDue s).points = s.points := by
  unfold warmIfDue; split
  · exact carryOutWarm_points s
  · rfl

theorem serveRound_points (g : GroupId) (s : State) : (serveRound g s).1.points = s.points := by
  have hclose : (closeRound g s).1.points = s.points := handCommitDone_points g _ _ _
  unfold serveRound; split
  · exact Eff.andThen_keeps State.points hclose fun t => warmIfDue_points _
  · rfl

theorem takeGrant_points (s : State) : (takeGrant s).points = s.points := by
  unfold takeGrant; split
  · rfl
  · split
    · rfl
    · rfl
    · rfl
    · exact handStaging_points _ _ _
    · rfl

theorem completeCommit_points (ws : List WriteWord) (s : State) : (completeCommit ws s).1.points = s.points := by
  unfold completeCommit; dsimp only; split
  · exact serveRound_points _ _
  · rfl

/-! ## The timebase (chapters 6 and 7) -/

theorem chooseActive_points (s : State) : (chooseActive s).1.points = s.points := by
  unfold chooseActive; dsimp only; split
  · split <;> rfl
  · rfl
  · rfl

theorem takeRefConfig_points (r : RefId) (e : Bool) (p : Nat) (s : State) : (takeRefConfig r e p s).1.points = s.points := by
  unfold takeRefConfig; dsimp only
  refine (chooseActive_points _).trans ?_
  split <;> rfl

theorem acquireAct_points (e : Int) (s : State) : (acquireAct e s).points = s.points := by
  unfold acquireAct; split <;> rfl

theorem loopAct_points (r : RefId) (cap : Stamp) (s : State) : (loopAct r cap s).points = s.points := by
  have hlocked : ∀ (e : Int) (t : State), (lockedAct e t).points = t.points := fun e t => by
    unfold lockedAct; split_ifs <;> rfl
  unfold loopAct; dsimp only; split
  · exact hlocked _ _
  · exact acquireAct_points _ _
  · exact acquireAct_points _ _
  · exact acquireAct_points _ _

theorem pulseActs_points (r : RefId) (cap : Stamp) (b : Option RefId) (s : State) :
    (pulseActs r cap b s).points = s.points := by
  unfold pulseActs; split
  · rfl
  · split
    · exact loopAct_points r cap s
    · rfl

theorem takeTick_points (disc : Bool) (order : TickOrder) (s : State) : (takeTick disc order s).1.points = s.points := by
  have hframes : ∀ t, (handFrames disc t).1.points = t.points := fun t => handAll_points _ _ _ t
  unfold takeTick; dsimp only; split
  · rfl
  · split
    · exact Eff.andThen_keeps State.points (tickGroups_points disc _) hframes
    · exact Eff.andThen_keeps State.points (hframes _) (tickGroups_points disc)

theorem takePulse_points (r : RefId) (order : TickOrder) (s : State) : (takePulse r order s).1.points = s.points := by
  have hjudge : ∀ (cap : Stamp) (t : State), (judgePulse r cap order t).1.points = t.points := fun cap t => by
    unfold judgePulse; dsimp only; split
    · exact (takeTick_points true order _).trans ((pulseActs_points r cap _ _).trans (chooseActive_points _))
    · rfl
  unfold takePulse; split
  · split
    · exact hjudge _ _
    · rfl
  · rfl

theorem lineEdge_points (r : RefId) (b : Bool) (s : State) : (lineEdge r b s).points = s.points := State.modRef_points s r _

theorem takeMiss_points (r : RefId) (s : State) : (takeMiss r s).1.points = s.points := by
  unfold takeMiss; split
  · exact chooseActive_points _
  · rfl

theorem takeHoldSecond_points (s : State) : (takeHoldSecond s).1.points = s.points := by
  unfold takeHoldSecond; dsimp only; split <;> rfl

/-- A tick of the millisecond divider moves the points' timers alone (R94). -/
theorem millisecond_sound (s : State) : PointsSound s (millisecond s) := fun hs p => by
  have hpoints : (millisecond s).points = Vector.ofFn fun p : PointId => { s.points[p] with timer := s.points[p].timer.tick } := rfl
  rw [hpoints, ofFn_get]
  exact ((ackedActive_iff s).1 hs p).of_eq rfl rfl

theorem takePeriod_sound (order : TickOrder) (s : State) : PointsSound s (takePeriod order s).1 := by
  have hcount : ∀ t : State, PointsSound t (countPeriod t) := fun t => by
    unfold countPeriod; split
    · exact (PointsSound.same (t := { t with time := { t.time with divider := 0 } }) rfl).trans (millisecond_sound _)
    · exact .same rfl
  have hadvance : PointsSound s (advancePeriod s) := .same rfl
  exact hadvance.trans ((hcount _).trans (.same (takeTick_points false order _)))

/-! ## The environment (chapter 11) -/

theorem startPass_points (s : State) : (startPass s).points = s.points := by unfold startPass; split <;> rfl

theorem nextChannel_points (j : ChannelId) (s : State) : (nextChannel j s).points = s.points := by
  unfold nextChannel; split
  · rfl
  · unfold endPass; split
    · exact startPass_points _
    · rfl

theorem takeScanNow_points (s : State) : (takeScanNow s).points = s.points := by
  unfold takeScanNow; split
  · rfl
  · exact startPass_points s

theorem takeInterval_points (s : State) : (takeInterval s).points = s.points := by
  unfold takeInterval; dsimp only; split
  · rfl
  · exact startPass_points _

theorem takeChannelConfig_points (j : ChannelId) (new : ChannelCfg) (s : State) :
    (takeChannelConfig j new s).1.points = s.points := by
  unfold takeChannelConfig; dsimp only; split_ifs
  · exact nextChannel_points j _
  · rfl
  · exact nextChannel_points j _
  · rfl

/-! ## Windows (chapter 2) -/

theorem recordWorst_points (n : SlotId) (ps : List Placed) (s : State) : (recordWorst n ps s).1.points = s.points := by
  unfold recordWorst; split <;> rfl

@[simp] theorem appendWord_points (n : SlotId) (w : WriteWord) (s : State) : (appendWord n w s).points = s.points := by
  unfold appendWord; split <;> rfl

theorem keepOrHand_points (n : SlotId) (ks : List StagingWord) (s : State) : (keepOrHand n ks s).points = s.points := by
  unfold keepOrHand; split
  · rfl
  · exact handStaging_points n ks s

theorem takeRead_points (n : SlotId) (tag : Byte) (addr : Word) (count : Nat) (s : State) :
    (takeRead n tag addr count s).1.points = s.points := by
  have hlatch : ∀ b : Bool, (if b then takeLatch n s else s).points = s.points := fun b => by cases b <;> rfl
  unfold takeRead; dsimp only
  exact (recordWorst_points n _ _).trans (hlatch _)

/-! ## The control shadow (chapter 13) -/

theorem takeSlotWord_points (n : SlotId) (k : Nat) (be : Mask) (w : Word) (s : State) :
    (takeSlotWord n k be w s).1.points = s.points := by
  unfold takeSlotWord; dsimp only; split
  · split
    · exact policyActs_points n _ _
    · rfl
  · rfl
  · exact takeSlotCommand_points n w s
  · rfl

theorem takeQueueWord_points (q : QueueId) (k : Nat) (be : Mask) (w : Word) (s : State) :
    (takeQueueWord q k be w s).points = s.points := by
  unfold takeQueueWord; split_ifs
  · split
    · exact takeOpen_points q s
    · exact takeClose_points q s
    · rfl
  · rfl
  · rfl

theorem takeGroupWord_points (g : GroupId) (k : Nat) (w : Word) (s : State) : (takeGroupWord g k w s).points = s.points := by
  unfold takeGroupWord; dsimp only; split <;> rfl

/-- A point's record is no part of the point; the point acts by it (R165). -/
theorem takePointWord_sound (p : PointId) (k : Nat) (w : Word) (s : State) : PointsSound s (takePointWord p k w s).1 := by
  have hcfg : PointsSound s (setPointCfg p k w s) := .same rfl
  unfold takePointWord; split
  · exact tellShed_sound (hcfg.trans (Eff.andThen_sound (pointActs_sound p _ _ _) fun t => .same rfl))
  · exact hcfg

theorem takeAckWord_sound (w : Word) (s : State) : PointsSound s (takeAckWord w s).1 :=
  foldEff_sound (fun p t => tellShed_sound (ackPoint_sound p t)) _ s

/-- Of the global record's words ACK alone reaches the points (R164). -/
theorem takeGlobalWord_sound (k : Nat) (w : Word) (s : State) : PointsSound s (takeGlobalWord k w s).1 := by
  unfold takeGlobalWord; split
  · dsimp only; split
    · exact .same (takeWarm_points s)
    · exact .refl s
  · exact takeAckWord_sound w s
  · dsimp only; split
    · exact .same (takeScanNow_points s)
    · exact .refl s
  · dsimp only; split
    · exact .same rfl
    · exact .refl s
  · exact .same rfl
  · exact .same rfl
  · exact .same rfl
  · exact .same (formBudget_points _)
  · exact .same (takeRefConfig_points 0 _ _ s)
  · exact .same (takeRefConfig_points 1 _ _ s)
  · exact .same rfl
  · refine .same ?_
    unfold takeLogBase; dsimp only; split <;> rfl
  · refine .same ?_
    unfold takeLogCode; dsimp only; split_ifs <;> rfl
  · refine .same ?_
    unfold takeLogRead; split <;> rfl
  · split_ifs
    · exact .same (takeChannelConfig_points _ _ s)
    · exact .same rfl
    · exact .same rfl

/-- A region word taken, whatever its record (R191). -/
theorem takeRegion_sound (idx : RegionIdx) (d : Word) (be : Mask) (s : State) : PointsSound s (takeRegion idx d be s).1 := by
  unfold takeRegion takeFormed; split
  · exact takeGlobalWord_sound _ _ s
  · exact .same (takeSlotWord_points _ _ _ _ s)
  · exact .same rfl
  · exact .same (takeQueueWord_points _ _ _ _ s)
  · exact .same (takeGroupWord_points _ _ _ s)
  · exact takePointWord_sound _ _ _ s
  · exact .refl s

/-! ## The words of a WRITE (R27) -/

theorem showRegion_sound (n : SlotId) (sa : Word) (a : Nat) (d : Word) (be : Mask) (f : Bool) (s : State) :
    PointsSound s (showRegion n sa a d be f s).1 := by
  unfold showRegion; split_ifs
  · exact .refl s
  · exact .same rfl
  · exact Eff.andThen_sound (takeRegion_sound _ d be s) fun t => .same (appendWord_points n _ t)

theorem showIndex_points (n : SlotId) (sa : Word) (a : Nat) (q : QueueId) (b : Bool) (d : Word) (be : Mask) (s : State) :
    (showIndex n sa a q b d be s).1.points = s.points := by
  have happend : ∀ (c : Bool) (w : WriteWord) (t : State), (if c then appendWord n w t else t).points = t.points :=
    fun c w t => by cases c <;> simp
  unfold showIndex; dsimp only
  refine Eff.andThen_keeps State.points (judgeIndex_points n q b _ s) fun t => ?_
  split <;> exact happend _ _ t

theorem showWord_sound (n : SlotId) (sa : Word) (a : Nat) (d : Word) (be : Mask) (f : Bool) (s : State) :
    PointsSound s (showWord n sa a d be f s).1 := by
  unfold showWord; split
  · exact showRegion_sound n sa a d be f s
  · split
    · exact .same (showIndex_points n sa a _ _ d be s)
    · exact .same (appendWord_points n _ s)

theorem showWords_sound (n : SlotId) : ∀ (rs : List Routed) (f : Bool) (s : State), PointsSound s (showWords n rs f s).1
  | [], _, s => .refl s
  | .mem sa a d be :: rest, f, s => Eff.andThen_sound (showWord_sound n sa a d be f s) (showWords_sound n rest _)
  | .staging _ :: rest, f, s => showWords_sound n rest f s

theorem takeWrite_sound (n : SlotId) (addr : Word) (first last : Mask) (data : List Word) (s : State) :
    PointsSound s (takeWrite n addr first last data s).1 :=
  Eff.andThen_sound (.same (recordWorst_points n _ s)) fun t =>
    Eff.andThen_sound (showWords_sound n _ false t) fun u => .same (keepOrHand_points n _ u)

end Sys2Proof.Machine
end

section
/-! PROOF. Every command, and so every step, keeps acknowledged points active. -/

namespace Sys2Proof.Machine

open Sys2Proof

/-! ## Commands that are taken only where a condition holds -/

theorem sound_if {p : Prop} [Decidable p] {s t : State} (h : PointsSound s t) : PointsSound s (if p then t else s) := by
  split
  · exact h
  · exact .refl s

theorem sound_event_if {p : Prop} [Decidable p] {act : State → Eff} {s : State} (h : PointsSound s (act s).1) :
    PointsSound s (if p then event act s else s) := sound_if (sound_event h)

/-- A command that answers a state to which sound points stay sound. -/
theorem sound_of_next {s u t : State} (hu : PointsSound s u) (h : (.next u : Out) = .next t) : PointsSound s t := by
  cases h; exact hu

/-! ## READs and WRITEs taken -/

theorem takeHeadRead_sound (n : SlotId) (s : State) : PointsSound s (takeHeadRead n s) := by
  unfold takeHeadRead; split
  · exact sound_event (.same (takeRead_points n _ _ _ s))
  · exact .refl s

theorem takeHeadWrite_sound (n : SlotId) (s : State) : PointsSound s (takeHeadWrite n s) := by
  unfold takeHeadWrite; split
  · exact (PointsSound.same (State.modLink_points s n popFrame)).trans (sound_event (takeWrite_sound n _ _ _ _ _))
  · exact .refl s

theorem sendWrite_sound (o : Origin) (d : Word) (be : Mask) (s : State) : PointsSound s (sendWrite o d be s) :=
  (PointsSound.same (State.modLink_points s o.slot _)).trans (takeHeadWrite_sound o.slot _)

theorem armWrite_sound (o : Origin) (g : GroupId) (d : Word) (be : Mask) (s : State) : PointsSound s (armWrite o g d be s) :=
  sound_if (sendWrite_sound o d be s)

theorem regionWrite_sound (o : Origin) (idx : RegionIdx) (d : Word) (be : Mask) (s : State) :
    PointsSound s (regionWrite o idx d be s) := sound_if (sendWrite_sound o d be s)

theorem wordWrite_sound (o : Origin) (idx : RegionIdx) (d : Word) (s : State) : PointsSound s (wordWrite o idx d s) :=
  regionWrite_sound o idx d _ s

theorem fieldWrite_sound (o : Origin) (idx : RegionIdx) (lo len v : Nat) (s : State) :
    PointsSound s (fieldWrite o idx lo len v s) := wordWrite_sound o idx _ s

theorem slotFieldWrite_sound (o : Origin) (n : SlotId) (lo len v : Nat) (be : Mask) (s : State) :
    PointsSound s (slotFieldWrite o n lo len v be s) := regionWrite_sound o _ _ be s

/-! ## Every command -/

/-- COLD_RESET leaves every point not acknowledged (R159, R193). -/
theorem cold_ackedActive (x : Straps) (m : Memory) (p : List Instr) : (State.cold x m p).AckedActive := fun q => by
  have hpoints : (State.cold x m p).points = Vector.ofFn (coldPoint x.contacts) := rfl
  rw [hpoints, ofFn_get]
  refine Point.sound_of_unacked ?_
  unfold coldPoint; split_ifs <;> rfl

theorem exec_sound {c : Instr} {s t : State} (h : exec c s = .next t) : PointsSound s t := by
  cases c with
  | coldReset x => cases h; exact fun _ => cold_ackedActive x _ _
  -- writes of one word of the control region or of an arm word
  | warmReset | secondsLoad | openQueue | closeQueue | powerOn | removeSlot | clearLockout | ackPoint | ackAll | relayOn
  | relayOff | relayFollow | relayConfigWrite | scanNow | channelConfigWrite | logReadIndexWrite | windowRecordWrite =>
    exact sound_of_next (wordWrite_sound _ _ _ s) h
  | referenceEnableWrite | referencePriorityWrite | pointEnableWrite | pointLatchedWrite | pointSeverityWrite
  | pointRelayMarksWrite | pointShedTriggerWrite | senseModeWrite =>
    exact sound_of_next (fieldWrite_sound _ _ _ _ _ s) h
  | slotPolicyWrite | slotDrawWrite | shedPriorityWrite | controlRightWrite =>
    exact sound_of_next (slotFieldWrite_sound _ _ _ _ _ _ s) h
  | controlRegionWrite o idx data enables => exact sound_of_next (regionWrite_sound o idx data enables s) h
  | queueDescriptorWrite o q field =>
    refine sound_of_next ?_ h
    cases field with
    | base => exact wordWrite_sound o _ _ s
    | cellSize | cellCount | producer | consumer => exact fieldWrite_sound o _ _ _ _ s
    | high | low => exact regionWrite_sound o _ _ _ s
  | groupConfigWrite o g field =>
    refine sound_of_next ?_ h
    cases field with
    | base => exact wordWrite_sound o _ _ s
    | valid | size => exact fieldWrite_sound o _ _ _ _ s
  | budgetWrite o field =>
    refine sound_of_next ?_ h
    cases field <;> exact fieldWrite_sound o _ _ _ _ s
  | logConfigWrite o field =>
    refine sound_of_next ?_ h
    cases field <;> exact wordWrite_sound o _ _ s
  | armGroup | disarmGroup | discardGroup => exact sound_of_next (armWrite_sound _ _ _ _ s) h
  | armWordIgnored o g data enables => exact sound_of_next (sound_if (armWrite_sound o g data enables s)) h
  -- resets, start-up and time
  | coldStartUpWriteComplete =>
    revert h; show execColdStartUpWriteComplete s = _ → _
    unfold execColdStartUpWriteComplete; split
    · exact sound_of_next (sound_event (.same rfl))
    · exact sound_of_next (.refl s)
  | warmResetCarriedOut => exact sound_of_next (.same (warmIfDue_points s)) h
  | localOscillatorPeriod order => exact sound_of_next (sound_event (takePeriod_sound order s)) h
  | continuousFrameTick order => exact sound_of_next (sound_event_if (takePeriod_sound order s)) h
  | pulseEvent r order => exact sound_of_next (sound_event (.same (takePulse_points r order s))) h
  | missTimerExpiry r => exact sound_of_next (sound_event_if (.same (takeMiss_points r s))) h
  | holdoverTimerExpiry => exact sound_of_next (sound_event_if (.same (takeHoldSecond_points s))) h
  | referenceLineEdge r rising => exact sound_of_next (.same (lineEdge_points r rising s)) h
  -- links
  | readFrameArrival n | writeFrameArrival n =>
    refine sound_of_next ?_ h
    split
    · exact .same (State.modLink_points s n _)
    · exact .same (failedFrame_points n s)
  | readyToFenceArrival n | idleArrival n | transmitFrameEnd n =>
    exact sound_of_next (.same (State.modLink_points s n _)) h
  | echoReplyArrival n seq turnaround =>
    exact sound_of_next (sound_event (.same (replyArrives_points n seq turnaround.toNat s))) h
  | frameCheckFailed n => exact sound_of_next (.same (failedFrame_points n s)) h
  | echoReplyTimerExpiry n | errorWindowEnd n =>
    exact sound_of_next (sound_event_if (.same (State.modLink_points s n _))) h
  | echoCadenceDue n | sendGo n | sendHold n | sendEcho n | sendData n | sendIdle n =>
    exact sound_of_next (sound_if (.same (State.modLink_points s n _))) h
  | sendNotice n => exact sound_of_next (sound_if (.same (beginNotice_points n s))) h
  | resyncAdd n => exact sound_of_next (.same (State.modList_points s n _)) h
  -- windows and the memory port
  | windowTakeRead n => exact sound_of_next (takeHeadRead_sound n s) h
  | windowTakeWrite n => exact sound_of_next (takeHeadWrite_sound n s) h
  | readyToFenceTaken n => exact sound_of_next (sound_event_if (.same (handFence_points n s))) h
  | timeWord0Read n | statusMarkRead n => exact sound_of_next (sound_if (takeHeadRead_sound n s)) h
  | heldReadRelease n => exact sound_of_next (.same (State.setWaiting_points s n _)) h
  | memoryGrant => exact sound_of_next (.same (takeGrant_points s)) h
  | slotReadComplete =>
    revert h; show execSlotReadComplete s = _ → _
    unfold execSlotReadComplete; split
    · exact sound_of_next (.same rfl)
    · exact sound_of_next (.refl s)
  | slotWriteComplete =>
    revert h; show execSlotWriteComplete s = _ → _
    unfold execSlotWriteComplete; split
    · exact sound_of_next (.same rfl)
    · exact sound_of_next (.refl s)
  | logWriteComplete =>
    revert h; show execLogWriteComplete s = _ → _
    unfold execLogWriteComplete; split
    · exact sound_of_next (.same rfl)
    · exact sound_of_next (.refl s)
  -- queues and staging
  | queueZeroingOffer => exact sound_of_next (.same (offerZeroing_points s)) h
  | zeroingComplete =>
    revert h; show execZeroingComplete s = _ → _
    unfold execZeroingComplete; split
    · exact sound_of_next (sound_event (.same (completeZeroing_points _ _ s)))
    · exact sound_of_next (.refl s)
  | commitRoundStart =>
    revert h; show execCommitRoundStart s = _ → _
    unfold execCommitRoundStart; split
    · exact sound_of_next (sound_event (.same (serveRound_points _ s)))
    · exact sound_of_next (.refl s)
  | commitTransactionComplete =>
    revert h; show execCommitTransactionComplete s = _ → _
    unfold execCommitTransactionComplete; split
    · exact sound_of_next (sound_event (.same (completeCommit_points _ s)))
    · exact sound_of_next (.refl s)
  -- slots
  | slotLineSample n lines | presentDebounced n lines | latchDebounced n lines | pgoodSteady n lines | pgoodLost n lines =>
    exact sound_of_next (sound_event_if (.same (sampleSlot_points n lines s))) h
  | rampTimerExpiry n | linkTimerExpiry n | realignLimitExpiry n =>
    exact sound_of_next (sound_event_if (.same (takeFaulted_points n _ s))) h
  | drainTimerExpiry n => exact sound_of_next (sound_event_if (.same (takeFence_points n s))) h
  | powerDownTimerExpiry n => exact sound_of_next (sound_event_if (.same (takePowerDown_points n s))) h
  | backoffTimerExpiry n => exact sound_of_next (sound_event_if (.same (takeBackoff_points n s))) h
  | admitHead | readmitHead => exact sound_of_next (sound_event_if (.refl s)) h
  -- alarm points and the environment
  | raiseDebounceExpiry p => exact sound_of_next (sound_event_if (tellShed_sound (raisePoint_sound p _ s))) h
  | clearDebounceExpiry p => exact sound_of_next (sound_event_if (tellShed_sound (clearPoint_sound p s))) h
  | contactSample => exact sound_of_next (sound_event_if (.same rfl)) h
  | scanIntervalExpiry => exact sound_of_next (sound_if (.same (takeInterval_points s))) h
  | conversionComplete vin vref =>
    revert h; show execConversionComplete vin vref s = _ → _
    unfold execConversionComplete; split
    · exact sound_of_next (sound_event_if (.same (nextChannel_points _ _)))
    · exact sound_of_next (.refl s)

/-- Settles O8: the points leave a COLD_RESET not acknowledged; the acked flag is set by ACK alone, at an active point, and every
change of an acknowledged point's state leads to an active state or clears the flag. -/
theorem ackedOnlyWhileActive : Obligations.AckedOnlyWhileActive := by
  refine ⟨cold_ackedActive _ _ _, fun s t hs h => ?_⟩
  rcases step_cases h with rfl | ⟨c, rest, hc⟩
  · exact hs
  · exact exec_sound hc hs

end Sys2Proof.Machine
end
